-- ==== Sys2Proof/Word.lean ====
section
/-!
DEFINITION. The word types of the machine and their plainest arithmetic (00_scope.md R5, R6).

A `BitVec` stands where the spec has a bit vector: bit 0 is the least significant bit, arithmetic is modulo `2^n`.
A register number and a bit number are indexes, so they are `Fin`.
-/

namespace Sys2Proof

/-- A general register's content, and one byte of any memory (10_state.md R20, R34). -/
abbrev Byte := BitVec 8

/-- A program word, a data-space address, a register pair or the stack pointer (10_state.md R21, R29, R33, R34). -/
abbrev Word := BitVec 16

/-- A program-memory word address, the width of the program counter (10_state.md R23). -/
abbrev ProgAddr := BitVec 14

/-- A register number, R0 to R31 (10_state.md R20). -/
abbrev Reg := Fin 32

/-- A bit position 0..7 in a register, an I/O register or SREG (00_scope.md R8). -/
abbrev BitPos := Fin 8

/-- One bit for each interrupt vector index 0..25; bit 0 (reset) is never a request (60_exceptions.md R313). -/
abbrev IntSet := BitVec 26

/-- Bytes by address, in one canonical form: addresses strictly rising, nothing listed that an unlisted address reads as. -/
abbrev Memory := List Host.Cell

/-- `hi : lo`, the high byte first (00_scope.md R6). -/
def ofBytes (hi lo : Byte) : Word := hi ++ lo

/-- `v[7:0]`. -/
def lowByte (v : Word) : Byte := v.extractLsb' 0 8

/-- `v[15:8]`. -/
def highByte (v : Word) : Byte := v.extractLsb' 8 8

/-- A flag as the number the sums of the flag rules add. -/
def bit8 (b : Bool) : Byte := (BitVec.ofBool b).setWidth 8

end Sys2Proof
end

