-- ==== Sys2Proof/Config.lean ====
section
/-!
DEFINITION. What an implementation fixes, and the free values.

Every parameter of 00_scope.md R5 is a field of the configuration. Those whose value R5 gives are the fields of `Hardware`,
which the field `Config.part` selects; those it leaves OPEN (92_eei_decisions.md, last table) are fields of `Config` itself.
A configuration is plain data carried in `State.cfg` and no step changes it, so a statement about every state is a
statement about every configuration (log 7). The `opaque` constants are the free values: they have no body, so no proof
can see one, and each is applied to plain data that tells one draw from another (log 2, 4, 5, 20, 21).
-/

namespace Sys2Proof

/-! ### The parameters whose value R5 gives -/

/-- The parameters of 00_scope.md R5 that are not OPEN, one field each, in the order of its table. `regCount`, `regBits`
and `pcBits` are widths of types (Word.lean), and what is absent has no instruction and no state: Laws/Config.lean ties both
to the model. The machine reads the others. -/
structure Hardware where
  /-- `REG_COUNT`. -/
  regCount : Nat
  /-- `REG_BITS`. -/
  regBits : Nat
  /-- `PC_BITS`. -/
  pcBits : Nat
  /-- `FLASH_WORDS`. -/
  flashWords : Nat
  /-- `FLASHEND`, a word address. -/
  flashEnd : Nat
  /-- The register file in data space, first address. -/
  regFileStart : Nat
  /-- The register file in data space, last address. -/
  regFileEnd : Nat
  /-- The I/O registers in data space, first address. -/
  ioStart : Nat
  /-- The I/O registers in data space, last address. -/
  ioEnd : Nat
  /-- The extended I/O in data space, first address. -/
  extIoStart : Nat
  /-- The extended I/O in data space, last address. -/
  extIoEnd : Nat
  /-- `SRAM_START`. -/
  sramStart : Nat
  /-- `RAMEND`. -/
  ramEnd : Nat
  /-- `IO_OFFSET`, the data address of I/O address 0. -/
  ioOffset : Nat
  /-- `SREG_IO`. -/
  sregIo : Nat
  /-- `SPL_IO`. -/
  splIo : Nat
  /-- `SPH_IO`. -/
  sphIo : Nat
  /-- `RET_ADDR_BYTES`. -/
  retAddrBytes : Nat
  /-- `HAS_MUL`. -/
  hasMul : Bool
  /-- `HAS_JMP_CALL`. -/
  hasJmpCall : Bool
  /-- `HAS_MOVW`. -/
  hasMovw : Bool
  /-- `HAS_LPM_RD`. -/
  hasLpmRd : Bool
  /-- `HAS_ELPM`. -/
  hasElpm : Bool
  /-- `HAS_EIJMP`. -/
  hasEijmp : Bool
  /-- `HAS_DES`. -/
  hasDes : Bool
  /-- `HAS_XCH_LAx`. -/
  hasXchLax : Bool
  /-- RAMPX, RAMPY, RAMPZ, RAMPD. -/
  hasRamp : Bool
  /-- EIND. -/
  hasEind : Bool
  /-- `VECTOR_COUNT`. -/
  vectorCount : Nat
  /-- `VECTOR_WORDS`. -/
  vectorWords : Nat
  deriving DecidableEq, Repr

/-- The parts this model knows: the one that the spec describes (00_scope.md R5). -/
inductive Part where
  | atmega328
  deriving DecidableEq, Repr

/-- The values of 00_scope.md R5. -/
def Part.hardware : Part → Hardware
  | .atmega328 => {
    regCount := 32, regBits := 8
    pcBits := 14
    flashWords := 16384, flashEnd := 0x3FFF
    regFileStart := 0x0000, regFileEnd := 0x001F
    ioStart := 0x0020, ioEnd := 0x005F
    extIoStart := 0x0060, extIoEnd := 0x00FF
    sramStart := 0x0100, ramEnd := 0x08FF
    ioOffset := 0x20
    sregIo := 0x3F, splIo := 0x3D, sphIo := 0x3E
    retAddrBytes := 2
    hasMul := true, hasJmpCall := true, hasMovw := true, hasLpmRd := true
    hasElpm := false, hasEijmp := false, hasDes := false, hasXchLax := false, hasRamp := false, hasEind := false
    vectorCount := 26, vectorWords := 2 }

/-! ### The OPEN parameters -/

/-- What `SLEEP_ENABLED` is (44_mcu_control.md R301, D20): fixed false, fixed true, or bit 0 of the device register SMCR
read through the device oracle, as R5 has it. -/
inductive SleepEnable where
  | never
  | always
  | smcr
  deriving DecidableEq, Repr

/-- `SP_BITS`: how many bits the stack pointer has (10_state.md R29, D8; log 13). -/
inductive SpBits where
  | twelve
  | sixteen
  deriving DecidableEq, Repr

/-- `HaltCondition`: what ends a run (92_eei_decisions.md D30; log 25). It says nothing about the step itself. -/
inductive HaltCondition where
  /-- Nothing does. -/
  | never
  /-- The suggested default: the pc is at a self-jump and no interrupt is possible. -/
  | selfJump
  /-- The pc is at this word address, awake. -/
  | reaches (a : ProgAddr)
  deriving DecidableEq, Repr

/-- The reset sources of 60_exceptions.md R329. -/
inductive ResetSource where
  | powerOn
  | external
  | brownOut
  | watchdog
  deriving DecidableEq, Repr

/-- Something that happened to the peripheral devices. The devices' state is the list of these, newest first
(20_memory.md R56, 10_state.md R35; log 4). -/
inductive DevEvent where
  /-- `Dev.read(addr)`; it may change device state (R56). -/
  | read (addr : Word)
  /-- `Dev.write(addr, v)` (R56). -/
  | write (addr : Word) (v : Byte)
  /-- `Dev.event(WDR)` (44_mcu_control.md R302). -/
  | wdr
  /-- A change the environment made on its own between two instructions (60_exceptions.md R340); the number tells one
  change from another. -/
  | env (n : Nat)
  /-- A reset put the devices into their own reset state (70_reset_and_hazards.md R350, R351). -/
  | reset (src : ResetSource)
  deriving DecidableEq, Repr

/-- The configuration: every parameter of 00_scope.md R5, and what else 92_eei_decisions.md leaves open. The defaults are
those of the spec, but for `sleepEnable` (log 8), `levelSources` (log 9) and `gpiorStorage` (log 10). -/
structure Config where
  /-- The part, which fixes every parameter that is not OPEN: `Config.hw`. -/
  part : Part := .atmega328
  /-- `RESET_PC` (D34). -/
  resetPc : ProgAddr := 0
  /-- `VECTOR_BASE` (D34). -/
  vectorBase : ProgAddr := 0
  /-- `SP_BITS` (D8; log 13). -/
  spBits : SpBits := .twelve
  /-- `HaltCondition` (D30; log 25). -/
  haltCondition : HaltCondition := .selfJump
  /-- `OCD_ENABLED` (D22). -/
  ocdEnabled : Bool := false
  /-- `SLEEP_ENABLED` (D20). DESIGN CHOICE (log 8). -/
  sleepEnable : SleepEnable := .smcr
  /-- `IntSources`: which requests can become pending (D23). -/
  intSources : IntSet := 0
  /-- `Dev`: which device oracle, by number; what the oracle of a number answers are the free values `Config.devRead` and
  `Config.pendingAfterWrite` (D13; log 4). -/
  devOracle : Nat := 0
  /-- Which requests are level-type (60_exceptions.md R314): USART RX, USART UDRE, EE READY, TWI, SPM READY; INT0 and
  INT1 are level-type only when set so. DESIGN CHOICE (log 9). -/
  levelSources : IntSet := 0x34C0000
  /-- Whether the environment may reset the machine during a run (60_exceptions.md R325, R340). -/
  spontaneousReset : Bool := false
  /-- Whether GPIOR0, GPIOR1, GPIOR2 are refined to plain storage (20_memory.md R56, 60_exceptions.md R332; log 10). -/
  gpiorStorage : Bool := false
  deriving DecidableEq, Repr

/-- How many values a stack pointer of that width has. -/
def SpBits.size : SpBits → Nat
  | .twelve => 0x1000
  | .sixteen => 0x10000

namespace Config

/-- The parameters of R5 that are not OPEN. -/
def hw (c : Config) : Hardware := c.part.hardware

/-- The register at an address of the register file (20_memory.md R51): the file starts at address 0 and is as long as
there are registers, so the register's number is its address. -/
def regAt (c : Config) {a : Nat} (h : a ≤ c.hw.regFileEnd) : Reg := ⟨a, Nat.lt_succ_of_le h⟩

/-- The data address of SPL (20_memory.md R52, D12). -/
def splAddr (c : Config) : Word := BitVec.ofNat 16 (c.hw.ioOffset + c.hw.splIo)

/-- The data address of SPH (20_memory.md R52, D12). -/
def sphAddr (c : Config) : Word := BitVec.ofNat 16 (c.hw.ioOffset + c.hw.sphIo)

/-- The data address of SREG (20_memory.md R52, D12). -/
def sregAddr (c : Config) : Word := BitVec.ofNat 16 (c.hw.ioOffset + c.hw.sregIo)

/-- The data address of SMCR, whose bit 0 is SE (60_exceptions.md R332, 44_mcu_control.md R301). -/
def smcrAddr : Word := 0x0053

/-- The data addresses of GPIOR0, GPIOR1, GPIOR2 (60_exceptions.md R332). -/
def gpiorAddrs : List Word := [0x003E, 0x004A, 0x004B]

/-- What a byte of program memory that the image does not cover reads as (70_reset_and_hazards.md R352). -/
def erasedByte : Byte := 0xFF

/-- Bits 1..25: the vector indexes that are requests; index 0 is reset (60_exceptions.md R313). -/
def requestMask : IntSet := 0x3FFFFFE

/-- FREE VALUE (20_memory.md R56): the byte a device register reads as, of the oracle's number, the devices' history and the
address. -/
opaque devRead : Nat → List DevEvent → Word → Byte

/-- FREE VALUE (20_memory.md R56, 10_state.md R35): what is pending after a device write, of the oracle's number,
the history that ends in that write and what was pending before. -/
opaque pendingAfterWrite : Nat → List DevEvent → IntSet → IntSet

/-- FREE VALUE (10_state.md R37): the SRAM byte at an address that nothing has written since the power-up of this index. -/
opaque sramPowerOn : Nat → Word → Byte

/-- FREE VALUE (70_reset_and_hazards.md R351): a general register after a reset event during a run. -/
opaque regAfterReset : List DevEvent → Reg → Byte

/-- FREE VALUE (60_exceptions.md R331): the clocks that waking from sleep adds to interrupt entry. -/
opaque wakeClocks : List DevEvent → Nat

end Config

/-- The sources that can in fact become pending: a subset of 1..25 (60_exceptions.md R313). -/
def Config.requests (c : Config) : IntSet := c.intSources &&& Config.requestMask

end Sys2Proof
end

