-- ==== Sys2Proof/Syntax.lean ====
section
/-!
DEFINITION. The instructions: one constructor for each of the 131 rows of spec/opcode_table.json, in its order.

Operands are what the assembler line names (00_scope.md R8): `d` and `r` are register numbers 0..31 (the subsets some
encodings are limited to are WellFormed's), `k` is constant data or a constant address in its field's width, `q` a
displacement, `a` an I/O address, `b` a bit position, `f` an SREG bit position. Relative `k` is the encoded offset
(30_encoding.md R105). The 45 alias rows (30_encoding.md R103) are constructors of their own; the decoder answers the
canonical ones only (R102; log 11).
-/

namespace Sys2Proof

/-- The instructions of the ATmega328 (30_encoding.md R100). -/
inductive Instr where
  -- Arithmetic and logic (40_arithmetic_logic.md)
  /-- `ADD Rd, Rr` (R126). -/
  | add (d r : Reg)
  /-- `ADC Rd, Rr` (R127). -/
  | adc (d r : Reg)
  /-- `ADIW Rd, K` (R128). -/
  | adiw (d : Reg) (k : BitVec 6)
  /-- `SUB Rd, Rr` (R129). -/
  | sub (d r : Reg)
  /-- `SUBI Rd, K` (R130). -/
  | subi (d : Reg) (k : Byte)
  /-- `SBC Rd, Rr` (R131). -/
  | sbc (d r : Reg)
  /-- `SBCI Rd, K` (R132). -/
  | sbci (d : Reg) (k : Byte)
  /-- `SBIW Rd, K` (R133). -/
  | sbiw (d : Reg) (k : BitVec 6)
  /-- `AND Rd, Rr` (R134). -/
  | and (d r : Reg)
  /-- `ANDI Rd, K` (R135). -/
  | andi (d : Reg) (k : Byte)
  /-- `OR Rd, Rr` (R136). -/
  | or (d r : Reg)
  /-- `ORI Rd, K` (R137). -/
  | ori (d : Reg) (k : Byte)
  /-- `EOR Rd, Rr` (R138). -/
  | eor (d r : Reg)
  /-- `COM Rd` (R139). -/
  | com (d : Reg)
  /-- `NEG Rd` (R140). -/
  | neg (d : Reg)
  /-- `SBR Rd,K` (R141), another name of `ORI Rd,K`. -/
  | sbr (d : Reg) (k : Byte)
  /-- `CBR Rd,K` (R142), another name of `ANDI Rd,(0xFF-K)`. -/
  | cbr (d : Reg) (k : Byte)
  /-- `INC Rd` (R143). -/
  | inc (d : Reg)
  /-- `DEC Rd` (R144). -/
  | dec (d : Reg)
  /-- `TST Rd` (R145), another name of `AND Rd,Rd`. -/
  | tst (d : Reg)
  /-- `CLR Rd` (R146), another name of `EOR Rd,Rd`. -/
  | clr (d : Reg)
  /-- `SER Rd` (R147), another name of `LDI Rd,0xFF`. -/
  | ser (d : Reg)
  /-- `MUL Rd,Rr` (R148). -/
  | mul (d r : Reg)
  /-- `MULS Rd,Rr` (R149). -/
  | muls (d r : Reg)
  /-- `MULSU Rd,Rr` (R150). -/
  | mulsu (d r : Reg)
  /-- `FMUL Rd,Rr` (R151). -/
  | fmul (d r : Reg)
  /-- `FMULS Rd,Rr` (R152). -/
  | fmuls (d r : Reg)
  /-- `FMULSU Rd,Rr` (R153). -/
  | fmulsu (d r : Reg)
  -- Branch, call, return, compare and skip (41_branch.md)
  /-- `RJMP k` (R165). -/
  | rjmp (k : BitVec 12)
  /-- `IJMP` (R166). -/
  | ijmp
  /-- `JMP k` (R167). -/
  | jmp (k : BitVec 22)
  /-- `RCALL k` (R168). -/
  | rcall (k : BitVec 12)
  /-- `ICALL` (R169). -/
  | icall
  /-- `CALL k` (R170). -/
  | call (k : BitVec 22)
  /-- `RET` (R171). -/
  | ret
  /-- `RETI` (R172). -/
  | reti
  /-- `CPSE Rd,Rr` (R173). -/
  | cpse (d r : Reg)
  /-- `CP Rd,Rr` (R174). -/
  | cp (d r : Reg)
  /-- `CPC Rd,Rr` (R175). -/
  | cpc (d r : Reg)
  /-- `CPI Rd,K` (R176). -/
  | cpi (d : Reg) (k : Byte)
  /-- `SBRC Rr, b` (R177). -/
  | sbrc (r : Reg) (b : BitPos)
  /-- `SBRS Rr, b` (R178). -/
  | sbrs (r : Reg) (b : BitPos)
  /-- `SBIC A, b` (R179). -/
  | sbic (a : BitVec 5) (b : BitPos)
  /-- `SBIS A, b` (R180). -/
  | sbis (a : BitVec 5) (b : BitPos)
  /-- `BRBS s, k` (R181). -/
  | brbs (f : BitPos) (k : BitVec 7)
  /-- `BRBC s, k` (R182). -/
  | brbc (f : BitPos) (k : BitVec 7)
  /-- `BREQ k` (R183), another name of `BRBS 1,k`. -/
  | breq (k : BitVec 7)
  /-- `BRNE k` (R184), another name of `BRBC 1,k`. -/
  | brne (k : BitVec 7)
  /-- `BRCS k` (R185), another name of `BRBS 0,k`. -/
  | brcs (k : BitVec 7)
  /-- `BRCC k` (R186), another name of `BRBC 0,k`. -/
  | brcc (k : BitVec 7)
  /-- `BRSH k` (R187), another name of `BRBC 0,k`. -/
  | brsh (k : BitVec 7)
  /-- `BRLO k` (R188), another name of `BRBS 0,k`. -/
  | brlo (k : BitVec 7)
  /-- `BRMI k` (R189), another name of `BRBS 2,k`. -/
  | brmi (k : BitVec 7)
  /-- `BRPL k` (R190), another name of `BRBC 2,k`. -/
  | brpl (k : BitVec 7)
  /-- `BRGE k` (R191), another name of `BRBC 4,k`. -/
  | brge (k : BitVec 7)
  /-- `BRLT k` (R192), another name of `BRBS 4,k`. -/
  | brlt (k : BitVec 7)
  /-- `BRHS k` (R193), another name of `BRBS 5,k`. -/
  | brhs (k : BitVec 7)
  /-- `BRHC k` (R194), another name of `BRBC 5,k`. -/
  | brhc (k : BitVec 7)
  /-- `BRTS k` (R195), another name of `BRBS 6,k`. -/
  | brts (k : BitVec 7)
  /-- `BRTC k` (R196), another name of `BRBC 6,k`. -/
  | brtc (k : BitVec 7)
  /-- `BRVS k` (R197), another name of `BRBS 3,k`. -/
  | brvs (k : BitVec 7)
  /-- `BRVC k` (R198), another name of `BRBC 3,k`. -/
  | brvc (k : BitVec 7)
  /-- `BRIE k` (R199), another name of `BRBS 7,k`. -/
  | brie (k : BitVec 7)
  /-- `BRID k` (R200), another name of `BRBC 7,k`. -/
  | brid (k : BitVec 7)
  -- Data transfer (42_data_transfer.md)
  /-- `MOV Rd, Rr` (R214). -/
  | mov (d r : Reg)
  /-- `MOVW Rd, Rr` (R215). -/
  | movw (d r : Reg)
  /-- `LDI Rd, K` (R216). -/
  | ldi (d : Reg) (k : Byte)
  /-- `LD Rd, X` (R217). -/
  | ldX (d : Reg)
  /-- `LD Rd, X+` (R218). -/
  | ldXInc (d : Reg)
  /-- `LD Rd, -X` (R219). -/
  | ldXDec (d : Reg)
  /-- `LD Rd, Y` (R220), another name of `LDD Rd,Y+0`. -/
  | ldY (d : Reg)
  /-- `LD Rd, Y+` (R221). -/
  | ldYInc (d : Reg)
  /-- `LD Rd, -Y` (R222). -/
  | ldYDec (d : Reg)
  /-- `LDD Rd, Y+q` (R223). -/
  | lddY (d : Reg) (q : BitVec 6)
  /-- `LD Rd, Z` (R224), another name of `LDD Rd,Z+0`. -/
  | ldZ (d : Reg)
  /-- `LD Rd, Z+` (R225). -/
  | ldZInc (d : Reg)
  /-- `LD Rd, -Z` (R226). -/
  | ldZDec (d : Reg)
  /-- `LDD Rd, Z+q` (R227). -/
  | lddZ (d : Reg) (q : BitVec 6)
  /-- `LDS Rd, k` (R228). -/
  | lds (d : Reg) (k : Word)
  /-- `ST X, Rr` (R229). -/
  | stX (r : Reg)
  /-- `ST X+, Rr` (R230). -/
  | stXInc (r : Reg)
  /-- `ST -X, Rr` (R231). -/
  | stXDec (r : Reg)
  /-- `ST Y, Rr` (R232), another name of `STD Y+0,Rr`. -/
  | stY (r : Reg)
  /-- `ST Y+, Rr` (R233). -/
  | stYInc (r : Reg)
  /-- `ST -Y, Rr` (R234). -/
  | stYDec (r : Reg)
  /-- `STD Y+q, Rr` (R235). -/
  | stdY (q : BitVec 6) (r : Reg)
  /-- `ST Z, Rr` (R236), another name of `STD Z+0,Rr`. -/
  | stZ (r : Reg)
  /-- `ST Z+, Rr` (R237). -/
  | stZInc (r : Reg)
  /-- `ST -Z, Rr` (R238). -/
  | stZDec (r : Reg)
  /-- `STD Z+q, Rr` (R239). -/
  | stdZ (q : BitVec 6) (r : Reg)
  /-- `STS k, Rr` (R240). -/
  | sts (k : Word) (r : Reg)
  /-- `LPM` (R241). -/
  | lpm
  /-- `LPM Rd, Z` (R242). -/
  | lpmZ (d : Reg)
  /-- `LPM Rd, Z+` (R243). -/
  | lpmZInc (d : Reg)
  /-- `SPM` (R244). -/
  | spm
  /-- `IN Rd, A` (R245). -/
  | inp (d : Reg) (a : BitVec 6)
  /-- `OUT A, Rr` (R246). -/
  | out (a : BitVec 6) (r : Reg)
  /-- `PUSH Rr` (R247). -/
  | push (r : Reg)
  /-- `POP Rd` (R248). -/
  | pop (d : Reg)
  -- Bit and bit-test (43_bit_and_bit_test.md)
  /-- `SBI A, b` (R262). -/
  | sbi (a : BitVec 5) (b : BitPos)
  /-- `CBI A, b` (R263). -/
  | cbi (a : BitVec 5) (b : BitPos)
  /-- `LSL Rd` (R264), another name of `ADD Rd,Rd`. -/
  | lsl (d : Reg)
  /-- `LSR Rd` (R265). -/
  | lsr (d : Reg)
  /-- `ROL Rd` (R266), another name of `ADC Rd,Rd`. -/
  | rol (d : Reg)
  /-- `ROR Rd` (R267). -/
  | ror (d : Reg)
  /-- `ASR Rd` (R268). -/
  | asr (d : Reg)
  /-- `SWAP Rd` (R269). -/
  | swap (d : Reg)
  /-- `BST Rr, b` (R270). -/
  | bst (r : Reg) (b : BitPos)
  /-- `BLD Rd, b` (R271). -/
  | bld (d : Reg) (b : BitPos)
  /-- `BSET s` (R272). -/
  | bset (f : BitPos)
  /-- `BCLR s` (R273). -/
  | bclr (f : BitPos)
  /-- `SEC` (R274), another name of `BSET 0`. -/
  | sec
  /-- `CLC` (R275), another name of `BCLR 0`. -/
  | clc
  /-- `SEN` (R276), another name of `BSET 2`. -/
  | sen
  /-- `CLN` (R277), another name of `BCLR 2`. -/
  | cln
  /-- `SEZ` (R278), another name of `BSET 1`. -/
  | sez
  /-- `CLZ` (R279), another name of `BCLR 1`. -/
  | clz
  /-- `SEI` (R280), another name of `BSET 7`. -/
  | sei
  /-- `CLI` (R281), another name of `BCLR 7`. -/
  | cli
  /-- `SES` (R282), another name of `BSET 4`. -/
  | ses
  /-- `CLS` (R283), another name of `BCLR 4`. -/
  | cls
  /-- `SEV` (R284), another name of `BSET 3`. -/
  | sev
  /-- `CLV` (R285), another name of `BCLR 3`. -/
  | clv
  /-- `SET` (R286), another name of `BSET 6`. -/
  | setT
  /-- `CLT` (R287), another name of `BCLR 6`. -/
  | clt
  /-- `SEH` (R288), another name of `BSET 5`. -/
  | seh
  /-- `CLH` (R289), another name of `BCLR 5`. -/
  | clh
  -- MCU control (44_mcu_control.md)
  /-- `NOP` (R300). -/
  | nop
  /-- `SLEEP` (R301). -/
  | sleep
  /-- `WDR` (R302). -/
  | wdr
  /-- `BREAK` (R303). -/
  | brk
  deriving DecidableEq, Repr

end Sys2Proof
end

