-- ==== Sys2Proof/WellFormed.lean ====
section
/-!
DEFINITION. Which register numbers an instruction may name (10_state.md R22; 30_encoding.md R86 to R89). Every other
operand range is the width of its field, so it needs no check. And which instructions a part provides (00_scope.md R5).
-/

namespace Sys2Proof

namespace Reg

/-- R16..R31: format RdK8 and MULS (30_encoding.md R86). -/
def upper (d : Reg) : Bool := 16 ≤ d.val

/-- R16..R23: MULSU, FMUL, FMULS, FMULSU (30_encoding.md R87). -/
def mid (d : Reg) : Bool := 16 ≤ d.val && d.val ≤ 23

/-- An even number, naming the pair `R[d+1]:R[d]`: MOVW (30_encoding.md R88). -/
def even (d : Reg) : Bool := d.val % 2 == 0

/-- 24, 26, 28 or 30: ADIW, SBIW (30_encoding.md R89). -/
def pairHigh (d : Reg) : Bool := 24 ≤ d.val && d.val % 2 == 0

end Reg

/-- Whether the part provides the instruction: the HAS rows of 00_scope.md R5. Those that are absent (`HAS_ELPM`,
`HAS_EIJMP`, `HAS_DES`, `HAS_XCH_LAx`) name no instruction of the table; their words are reserved (30_encoding.md R106). -/
def Hardware.provides (hw : Hardware) : Instr → Bool
  | .mul _ _ | .muls _ _ | .mulsu _ _ | .fmul _ _ | .fmuls _ _ | .fmulsu _ _ => hw.hasMul
  | .jmp _ | .call _ => hw.hasJmpCall
  | .movw _ _ => hw.hasMovw
  | .lpmZ _ | .lpmZInc _ => hw.hasLpmRd
  | _ => true

/-- The instruction names only registers its encoding can hold (10_state.md R22). -/
def Instr.wellFormed : Instr → Bool
  | .add _ _ => true
  | .adc _ _ => true
  | .adiw d _ => Reg.pairHigh d
  | .sub _ _ => true
  | .subi d _ => Reg.upper d
  | .sbc _ _ => true
  | .sbci d _ => Reg.upper d
  | .sbiw d _ => Reg.pairHigh d
  | .and _ _ => true
  | .andi d _ => Reg.upper d
  | .or _ _ => true
  | .ori d _ => Reg.upper d
  | .eor _ _ => true
  | .com _ => true
  | .neg _ => true
  | .sbr d _ => Reg.upper d
  | .cbr d _ => Reg.upper d
  | .inc _ => true
  | .dec _ => true
  | .tst _ => true
  | .clr _ => true
  | .ser d => Reg.upper d
  | .mul _ _ => true
  | .muls d r => Reg.upper d && Reg.upper r
  | .mulsu d r => Reg.mid d && Reg.mid r
  | .fmul d r => Reg.mid d && Reg.mid r
  | .fmuls d r => Reg.mid d && Reg.mid r
  | .fmulsu d r => Reg.mid d && Reg.mid r
  | .rjmp _ => true
  | .ijmp => true
  | .jmp _ => true
  | .rcall _ => true
  | .icall => true
  | .call _ => true
  | .ret => true
  | .reti => true
  | .cpse _ _ => true
  | .cp _ _ => true
  | .cpc _ _ => true
  | .cpi d _ => Reg.upper d
  | .sbrc _ _ => true
  | .sbrs _ _ => true
  | .sbic _ _ => true
  | .sbis _ _ => true
  | .brbs _ _ => true
  | .brbc _ _ => true
  | .breq _ => true
  | .brne _ => true
  | .brcs _ => true
  | .brcc _ => true
  | .brsh _ => true
  | .brlo _ => true
  | .brmi _ => true
  | .brpl _ => true
  | .brge _ => true
  | .brlt _ => true
  | .brhs _ => true
  | .brhc _ => true
  | .brts _ => true
  | .brtc _ => true
  | .brvs _ => true
  | .brvc _ => true
  | .brie _ => true
  | .brid _ => true
  | .mov _ _ => true
  | .movw d r => Reg.even d && Reg.even r
  | .ldi d _ => Reg.upper d
  | .ldX _ => true
  | .ldXInc _ => true
  | .ldXDec _ => true
  | .ldY _ => true
  | .ldYInc _ => true
  | .ldYDec _ => true
  | .lddY _ _ => true
  | .ldZ _ => true
  | .ldZInc _ => true
  | .ldZDec _ => true
  | .lddZ _ _ => true
  | .lds _ _ => true
  | .stX _ => true
  | .stXInc _ => true
  | .stXDec _ => true
  | .stY _ => true
  | .stYInc _ => true
  | .stYDec _ => true
  | .stdY _ _ => true
  | .stZ _ => true
  | .stZInc _ => true
  | .stZDec _ => true
  | .stdZ _ _ => true
  | .sts _ _ => true
  | .lpm => true
  | .lpmZ _ => true
  | .lpmZInc _ => true
  | .spm => true
  | .inp _ _ => true
  | .out _ _ => true
  | .push _ => true
  | .pop _ => true
  | .sbi _ _ => true
  | .cbi _ _ => true
  | .lsl _ => true
  | .lsr _ => true
  | .rol _ => true
  | .ror _ => true
  | .asr _ => true
  | .swap _ => true
  | .bst _ _ => true
  | .bld _ _ => true
  | .bset _ => true
  | .bclr _ => true
  | .sec => true
  | .clc => true
  | .sen => true
  | .cln => true
  | .sez => true
  | .clz => true
  | .sei => true
  | .cli => true
  | .ses => true
  | .cls => true
  | .sev => true
  | .clv => true
  | .setT => true
  | .clt => true
  | .seh => true
  | .clh => true
  | .nop => true
  | .sleep => true
  | .wdr => true
  | .brk => true

end Sys2Proof
end

