-- ==== Sys2Proof/Decode.lean ====
section
/-!
DEFINITION. The decoder (30_encoding.md R80 to R102, R106, R109), then the encoder and the host's reading of it.

The decoder is a table of the 86 canonical rows of R100, each a mask, a pattern and the fields it assembles. It is total
on any bytes: a first word that matches no row is rejected as reserved (R106), a byte list that ends inside an
instruction as truncated. Aliases decode to their canonical rows (R102, R103; log 11).
-/

namespace Sys2Proof

/-- Why bytes are no instruction. -/
inductive DecodeError where
  /-- The first word matches no canonical row (30_encoding.md R106). -/
  | reserved (w : Word)
  /-- The bytes end inside an instruction. -/
  | truncated
  deriving DecidableEq, Repr

/-- A row of the encoding table: `w` belongs to it if and only if `w &&& mask = pattern` (30_encoding.md R102);
`build` assembles the operands from the first and the second word. -/
structure Row where
  mask : Word
  pattern : Word
  build : Word → Word → Instr

namespace Decode

/-- `d = u(w0[8:4])`, also the source of a store, OUT, PUSH, BST, SBRC, SBRS (30_encoding.md R84). -/
def regD5 (w : Word) : Reg := ⟨(w.extractLsb' 4 5).toNat, (w.extractLsb' 4 5).isLt⟩

/-- `r = u(w0[9] : w0[3:0])` (30_encoding.md R85). -/
def regR5 (w : Word) : Reg :=
  ⟨(w.extractLsb' 9 1 ++ w.extractLsb' 0 4).toNat, (w.extractLsb' 9 1 ++ w.extractLsb' 0 4).isLt⟩

/-- `16 + n` for a four-bit field `n` (30_encoding.md R86). -/
def regUpper (n : BitVec 4) : Reg := ⟨16 + n.toNat, by have := n.isLt; omega⟩

/-- `16 + n` for a three-bit field `n` (30_encoding.md R87). -/
def regMid (n : BitVec 3) : Reg := ⟨16 + n.toNat, by have := n.isLt; omega⟩

/-- `2 * n` for a four-bit field `n` (30_encoding.md R88). -/
def regEven (n : BitVec 4) : Reg := ⟨2 * n.toNat, by have := n.isLt; omega⟩

/-- `d = 16 + u(w0[7:4])` (30_encoding.md R86). -/
def regD4 (w : Word) : Reg := regUpper (w.extractLsb' 4 4)

/-- `r = 16 + u(w0[3:0])` (30_encoding.md R86). -/
def regR4 (w : Word) : Reg := regUpper (w.extractLsb' 0 4)

/-- `d = 16 + u(w0[6:4])` (30_encoding.md R87). -/
def regD3 (w : Word) : Reg := regMid (w.extractLsb' 4 3)

/-- `r = 16 + u(w0[2:0])` (30_encoding.md R87). -/
def regR3 (w : Word) : Reg := regMid (w.extractLsb' 0 3)

/-- `d = 2 * u(w0[7:4])` (30_encoding.md R88). -/
def pairD4 (w : Word) : Reg := regEven (w.extractLsb' 4 4)

/-- `r = 2 * u(w0[3:0])` (30_encoding.md R88). -/
def pairR4 (w : Word) : Reg := regEven (w.extractLsb' 0 4)

/-- `d = 24 + 2 * u(w0[5:4])` (30_encoding.md R89). -/
def pairD2 (w : Word) : Reg :=
  ⟨24 + 2 * (w.extractLsb' 4 2).toNat, by have := (w.extractLsb' 4 2).isLt; omega⟩

/-- `K = w0[11:8] : w0[3:0]` (30_encoding.md R90). -/
def constK8 (w : Word) : Byte := w.extractLsb' 8 4 ++ w.extractLsb' 0 4

/-- `K = w0[7:6] : w0[3:0]` (30_encoding.md R91). -/
def constK6 (w : Word) : BitVec 6 := w.extractLsb' 6 2 ++ w.extractLsb' 0 4

/-- `q = w0[13] : w0[11:10] : w0[2:0]` (30_encoding.md R92). -/
def dispQ6 (w : Word) : BitVec 6 := w.extractLsb' 13 1 ++ w.extractLsb' 10 2 ++ w.extractLsb' 0 3

/-- `A = w0[10:9] : w0[3:0]` (30_encoding.md R93). -/
def ioA6 (w : Word) : BitVec 6 := w.extractLsb' 9 2 ++ w.extractLsb' 0 4

/-- `A = w0[7:3]` (30_encoding.md R94). -/
def ioA5 (w : Word) : BitVec 5 := w.extractLsb' 3 5

/-- `b = u(w0[2:0])`, also the SREG bit number of format Br (30_encoding.md R95, R96). -/
def bitB (w : Word) : BitPos := ⟨(w.extractLsb' 0 3).toNat, (w.extractLsb' 0 3).isLt⟩

/-- `s = u(w0[6:4])` of format SregBit (30_encoding.md R96). -/
def flagS (w : Word) : BitPos := ⟨(w.extractLsb' 4 3).toNat, (w.extractLsb' 4 3).isLt⟩

/-- `k = w0[11:0]` (30_encoding.md R97). -/
def relK12 (w : Word) : BitVec 12 := w.extractLsb' 0 12

/-- `k = w0[9:3]` (30_encoding.md R98). -/
def relK7 (w : Word) : BitVec 7 := w.extractLsb' 3 7

/-- `k = w0[8:4] : w0[0] : w1` (30_encoding.md R99). -/
def absK22 (w w1 : Word) : BitVec 22 := w.extractLsb' 4 5 ++ w.extractLsb' 0 1 ++ w1

/-- The canonical rows of Arithmetic and logic (40_arithmetic_logic.md) (30_encoding.md R100). -/
def rowsArith : List Row := [
  ⟨0xFC00, 0x0C00, fun w _ => .add (regD5 w) (regR5 w)⟩,
  ⟨0xFC00, 0x1C00, fun w _ => .adc (regD5 w) (regR5 w)⟩,
  ⟨0xFF00, 0x9600, fun w _ => .adiw (pairD2 w) (constK6 w)⟩,
  ⟨0xFC00, 0x1800, fun w _ => .sub (regD5 w) (regR5 w)⟩,
  ⟨0xF000, 0x5000, fun w _ => .subi (regD4 w) (constK8 w)⟩,
  ⟨0xFC00, 0x0800, fun w _ => .sbc (regD5 w) (regR5 w)⟩,
  ⟨0xF000, 0x4000, fun w _ => .sbci (regD4 w) (constK8 w)⟩,
  ⟨0xFF00, 0x9700, fun w _ => .sbiw (pairD2 w) (constK6 w)⟩,
  ⟨0xFC00, 0x2000, fun w _ => .and (regD5 w) (regR5 w)⟩,
  ⟨0xF000, 0x7000, fun w _ => .andi (regD4 w) (constK8 w)⟩,
  ⟨0xFC00, 0x2800, fun w _ => .or (regD5 w) (regR5 w)⟩,
  ⟨0xF000, 0x6000, fun w _ => .ori (regD4 w) (constK8 w)⟩,
  ⟨0xFC00, 0x2400, fun w _ => .eor (regD5 w) (regR5 w)⟩,
  ⟨0xFE0F, 0x9400, fun w _ => .com (regD5 w)⟩,
  ⟨0xFE0F, 0x9401, fun w _ => .neg (regD5 w)⟩,
  ⟨0xFE0F, 0x9403, fun w _ => .inc (regD5 w)⟩,
  ⟨0xFE0F, 0x940A, fun w _ => .dec (regD5 w)⟩,
  ⟨0xFC00, 0x9C00, fun w _ => .mul (regD5 w) (regR5 w)⟩,
  ⟨0xFF00, 0x0200, fun w _ => .muls (regD4 w) (regR4 w)⟩,
  ⟨0xFF88, 0x0300, fun w _ => .mulsu (regD3 w) (regR3 w)⟩,
  ⟨0xFF88, 0x0308, fun w _ => .fmul (regD3 w) (regR3 w)⟩,
  ⟨0xFF88, 0x0380, fun w _ => .fmuls (regD3 w) (regR3 w)⟩,
  ⟨0xFF88, 0x0388, fun w _ => .fmulsu (regD3 w) (regR3 w)⟩
]

/-- The canonical rows of Branch, call, return, compare and skip (41_branch.md) (30_encoding.md R100). -/
def rowsBranch : List Row := [
  ⟨0xF000, 0xC000, fun w _ => .rjmp (relK12 w)⟩,
  ⟨0xFFFF, 0x9409, fun _ _ => .ijmp⟩,
  ⟨0xFE0E, 0x940C, fun w w1 => .jmp (absK22 w w1)⟩,
  ⟨0xF000, 0xD000, fun w _ => .rcall (relK12 w)⟩,
  ⟨0xFFFF, 0x9509, fun _ _ => .icall⟩,
  ⟨0xFE0E, 0x940E, fun w w1 => .call (absK22 w w1)⟩,
  ⟨0xFFFF, 0x9508, fun _ _ => .ret⟩,
  ⟨0xFFFF, 0x9518, fun _ _ => .reti⟩,
  ⟨0xFC00, 0x1000, fun w _ => .cpse (regD5 w) (regR5 w)⟩,
  ⟨0xFC00, 0x1400, fun w _ => .cp (regD5 w) (regR5 w)⟩,
  ⟨0xFC00, 0x0400, fun w _ => .cpc (regD5 w) (regR5 w)⟩,
  ⟨0xF000, 0x3000, fun w _ => .cpi (regD4 w) (constK8 w)⟩,
  ⟨0xFE08, 0xFC00, fun w _ => .sbrc (regD5 w) (bitB w)⟩,
  ⟨0xFE08, 0xFE00, fun w _ => .sbrs (regD5 w) (bitB w)⟩,
  ⟨0xFF00, 0x9900, fun w _ => .sbic (ioA5 w) (bitB w)⟩,
  ⟨0xFF00, 0x9B00, fun w _ => .sbis (ioA5 w) (bitB w)⟩,
  ⟨0xFC00, 0xF000, fun w _ => .brbs (bitB w) (relK7 w)⟩,
  ⟨0xFC00, 0xF400, fun w _ => .brbc (bitB w) (relK7 w)⟩
]

/-- The canonical rows of Data transfer (42_data_transfer.md) (30_encoding.md R100). -/
def rowsTransfer : List Row := [
  ⟨0xFC00, 0x2C00, fun w _ => .mov (regD5 w) (regR5 w)⟩,
  ⟨0xFF00, 0x0100, fun w _ => .movw (pairD4 w) (pairR4 w)⟩,
  ⟨0xF000, 0xE000, fun w _ => .ldi (regD4 w) (constK8 w)⟩,
  ⟨0xFE0F, 0x900C, fun w _ => .ldX (regD5 w)⟩,
  ⟨0xFE0F, 0x900D, fun w _ => .ldXInc (regD5 w)⟩,
  ⟨0xFE0F, 0x900E, fun w _ => .ldXDec (regD5 w)⟩,
  ⟨0xFE0F, 0x9009, fun w _ => .ldYInc (regD5 w)⟩,
  ⟨0xFE0F, 0x900A, fun w _ => .ldYDec (regD5 w)⟩,
  ⟨0xD208, 0x8008, fun w _ => .lddY (regD5 w) (dispQ6 w)⟩,
  ⟨0xFE0F, 0x9001, fun w _ => .ldZInc (regD5 w)⟩,
  ⟨0xFE0F, 0x9002, fun w _ => .ldZDec (regD5 w)⟩,
  ⟨0xD208, 0x8000, fun w _ => .lddZ (regD5 w) (dispQ6 w)⟩,
  ⟨0xFE0F, 0x9000, fun w w1 => .lds (regD5 w) w1⟩,
  ⟨0xFE0F, 0x920C, fun w _ => .stX (regD5 w)⟩,
  ⟨0xFE0F, 0x920D, fun w _ => .stXInc (regD5 w)⟩,
  ⟨0xFE0F, 0x920E, fun w _ => .stXDec (regD5 w)⟩,
  ⟨0xFE0F, 0x9209, fun w _ => .stYInc (regD5 w)⟩,
  ⟨0xFE0F, 0x920A, fun w _ => .stYDec (regD5 w)⟩,
  ⟨0xD208, 0x8208, fun w _ => .stdY (dispQ6 w) (regD5 w)⟩,
  ⟨0xFE0F, 0x9201, fun w _ => .stZInc (regD5 w)⟩,
  ⟨0xFE0F, 0x9202, fun w _ => .stZDec (regD5 w)⟩,
  ⟨0xD208, 0x8200, fun w _ => .stdZ (dispQ6 w) (regD5 w)⟩,
  ⟨0xFE0F, 0x9200, fun w w1 => .sts w1 (regD5 w)⟩,
  ⟨0xFFFF, 0x95C8, fun _ _ => .lpm⟩,
  ⟨0xFE0F, 0x9004, fun w _ => .lpmZ (regD5 w)⟩,
  ⟨0xFE0F, 0x9005, fun w _ => .lpmZInc (regD5 w)⟩,
  ⟨0xFFFF, 0x95E8, fun _ _ => .spm⟩,
  ⟨0xF800, 0xB000, fun w _ => .inp (regD5 w) (ioA6 w)⟩,
  ⟨0xF800, 0xB800, fun w _ => .out (ioA6 w) (regD5 w)⟩,
  ⟨0xFE0F, 0x920F, fun w _ => .push (regD5 w)⟩,
  ⟨0xFE0F, 0x900F, fun w _ => .pop (regD5 w)⟩
]

/-- The canonical rows of Bit and bit-test (43_bit_and_bit_test.md) (30_encoding.md R100). -/
def rowsBits : List Row := [
  ⟨0xFF00, 0x9A00, fun w _ => .sbi (ioA5 w) (bitB w)⟩,
  ⟨0xFF00, 0x9800, fun w _ => .cbi (ioA5 w) (bitB w)⟩,
  ⟨0xFE0F, 0x9406, fun w _ => .lsr (regD5 w)⟩,
  ⟨0xFE0F, 0x9407, fun w _ => .ror (regD5 w)⟩,
  ⟨0xFE0F, 0x9405, fun w _ => .asr (regD5 w)⟩,
  ⟨0xFE0F, 0x9402, fun w _ => .swap (regD5 w)⟩,
  ⟨0xFE08, 0xFA00, fun w _ => .bst (regD5 w) (bitB w)⟩,
  ⟨0xFE08, 0xF800, fun w _ => .bld (regD5 w) (bitB w)⟩,
  ⟨0xFF8F, 0x9408, fun w _ => .bset (flagS w)⟩,
  ⟨0xFF8F, 0x9488, fun w _ => .bclr (flagS w)⟩
]

/-- The canonical rows of MCU control (44_mcu_control.md) (30_encoding.md R100). -/
def rowsMcu : List Row := [
  ⟨0xFFFF, 0x0000, fun _ _ => .nop⟩,
  ⟨0xFFFF, 0x9588, fun _ _ => .sleep⟩,
  ⟨0xFFFF, 0x95A8, fun _ _ => .wdr⟩,
  ⟨0xFFFF, 0x9598, fun _ _ => .brk⟩
]

/-- The 86 canonical rows (30_encoding.md R100). -/
def rows : List Row := rowsArith ++ rowsBranch ++ rowsTransfer ++ rowsBits ++ rowsMcu

end Decode

/-- `IsTwoWord(w0)`: the first word of LDS, STS, JMP or CALL (30_encoding.md R81). -/
def isTwoWord (w : Word) : Bool := (w &&& 0xFC0F == 0x9000) || (w &&& 0xFE0C == 0x940C)

/-- The first row a first word belongs to; the rows are disjoint, so it is the only one (30_encoding.md R102). -/
def findRow (w : Word) : Option Row := Decode.rows.find? fun row => w &&& row.mask == row.pattern

/-- The instruction of a first word and the word after it, if the first word is not reserved (30_encoding.md R102);
the second word matters to a two-word instruction only. -/
def decodeWords (w0 w1 : Word) : Option Instr := (findRow w0).map fun row => row.build w0 w1

/-- Decodes the instruction a byte list begins with and answers it with the rest of the list. A program word's low byte
comes first (20_memory.md R60), and the second word of an instruction after the first (30_encoding.md R109). -/
def decode : List Byte → Except DecodeError (Instr × List Byte)
  | lo0 :: hi0 :: rest =>
    let w0 := ofBytes hi0 lo0
    match isTwoWord w0, rest with
    | true, lo1 :: hi1 :: rest' =>
      match decodeWords w0 (ofBytes hi1 lo1) with
      | some i => .ok (i, rest')
      | none => .error (.reserved w0)
    | true, _ => .error .truncated
    | false, rest =>
      match decodeWords w0 0 with
      | some i => .ok (i, rest)
      | none => .error (.reserved w0)
  | _ => .error .truncated

namespace Encode

/-- A register number as its five bits. -/
def regBits (d : Reg) : BitVec 5 := BitVec.ofNat 5 d.val

/-- The low four bits of a register number: the field of R16..R31 (30_encoding.md R86). -/
def upperBits (d : Reg) : BitVec 4 := BitVec.ofNat 4 (d.val - 16)

/-- The field of R16..R23 (30_encoding.md R87). -/
def midBits (d : Reg) : BitVec 3 := BitVec.ofNat 3 (d.val - 16)

/-- The field of an even pair (30_encoding.md R88). -/
def evenBits (d : Reg) : BitVec 4 := BitVec.ofNat 4 (d.val / 2)

/-- The field of the pairs 24, 26, 28, 30 (30_encoding.md R89). -/
def pairHighBits (d : Reg) : BitVec 2 := BitVec.ofNat 2 ((d.val - 24) / 2)

/-- A bit position as its three bits (30_encoding.md R95, R96). -/
def posBits (b : BitPos) : BitVec 3 := BitVec.ofNat 3 b.val

/-- Format RdRr, `oooo oord dddd rrrr` (30_encoding.md R82). -/
def encRdRr (op : BitVec 6) (d r : Reg) : Word :=
  op ++ (regBits r).extractLsb' 4 1 ++ regBits d ++ (regBits r).extractLsb' 0 4

/-- Format RdK8, `oooo KKKK dddd KKKK` (30_encoding.md R82). -/
def encRdK8 (op : BitVec 4) (d : Reg) (k : Byte) : Word :=
  op ++ k.extractLsb' 4 4 ++ upperBits d ++ k.extractLsb' 0 4

/-- Format Rd, `1001 010d dddd oooo` (30_encoding.md R82). -/
def encRd (d : Reg) (op : BitVec 4) : Word := 0b1001010#7 ++ regBits d ++ op

/-- Format PairK6, `1001 011o KKdd KKKK` (30_encoding.md R82). -/
def encPairK6 (op : BitVec 8) (d : Reg) (k : BitVec 6) : Word :=
  op ++ k.extractLsb' 4 2 ++ pairHighBits d ++ k.extractLsb' 0 4

/-- Format PairPair, `0000 0001 dddd rrrr` (30_encoding.md R82). -/
def encPairPair (d r : Reg) : Word := 0b00000001#8 ++ evenBits d ++ evenBits r

/-- Format Rd4Rr4, `0000 0010 dddd rrrr` (30_encoding.md R82). -/
def encRd4Rr4 (op : BitVec 8) (d r : Reg) : Word := op ++ upperBits d ++ upperBits r

/-- Format Rd3Rr3, `0000 0011 oddd orrr` (30_encoding.md R82). -/
def encRd3Rr3 (o1 o2 : BitVec 1) (d r : Reg) : Word :=
  0b00000011#8 ++ o1 ++ midBits d ++ o2 ++ midBits r

/-- Format LdSt, `1001 00sd dddd mmmm` (30_encoding.md R82). -/
def encLdSt (s : BitVec 1) (d : Reg) (mode : BitVec 4) : Word := 0b100100#6 ++ s ++ regBits d ++ mode

/-- Format LddStd, `10q0 qqsd dddd yqqq` (30_encoding.md R82). -/
def encLddStd (s y : BitVec 1) (d : Reg) (q : BitVec 6) : Word :=
  0b10#2 ++ q.extractLsb' 5 1 ++ 0b0#1 ++ q.extractLsb' 3 2 ++ s ++ regBits d ++ y ++ q.extractLsb' 0 3

/-- Format IO, `1011 sAAd dddd AAAA` (30_encoding.md R82). -/
def encIO (s : BitVec 1) (d : Reg) (a : BitVec 6) : Word :=
  0b1011#4 ++ s ++ a.extractLsb' 4 2 ++ regBits d ++ a.extractLsb' 0 4

/-- Format IOBit, `1001 10oo AAAA Abbb` (30_encoding.md R82). -/
def encIOBit (op : BitVec 2) (a : BitVec 5) (b : BitPos) : Word := 0b100110#6 ++ op ++ a ++ posBits b

/-- Format RegBit, `1111 1ood dddd 0bbb` (30_encoding.md R82). -/
def encRegBit (op : BitVec 2) (d : Reg) (b : BitPos) : Word :=
  0b11111#5 ++ op ++ regBits d ++ 0b0#1 ++ posBits b

/-- Format SregBit, `1001 0100 osss 1000` (30_encoding.md R82). -/
def encSregBit (o : BitVec 1) (f : BitPos) : Word := 0b10010100#8 ++ o ++ posBits f ++ 0b1000#4

/-- Format Br, `1111 0okk kkkk ksss` (30_encoding.md R82). -/
def encBr (o : BitVec 1) (f : BitPos) (k : BitVec 7) : Word := 0b11110#5 ++ o ++ k ++ posBits f

/-- Format Rel12, `110o kkkk kkkk kkkk` (30_encoding.md R82). -/
def encRel12 (o : BitVec 1) (k : BitVec 12) : Word := 0b110#3 ++ o ++ k

/-- Format Abs22, `1001 010k kkkk 11ok` and the low 16 bits of `k` (30_encoding.md R82, R99). -/
def encAbs22 (o : BitVec 1) (k : BitVec 22) : List Word :=
  [0b1001010#7 ++ k.extractLsb' 17 5 ++ 0b11#2 ++ o ++ k.extractLsb' 16 1, k.extractLsb' 0 16]

end Encode

open Encode in
/-- The words of an instruction, first word first (30_encoding.md R100, R103, R109). -/
def encode : Instr → List Word
  | .add d r => [encRdRr 0b000011 d r]
  | .adc d r => [encRdRr 0b000111 d r]
  | .adiw d k => [encPairK6 0b10010110 d k]
  | .sub d r => [encRdRr 0b000110 d r]
  | .subi d k => [encRdK8 0b0101 d k]
  | .sbc d r => [encRdRr 0b000010 d r]
  | .sbci d k => [encRdK8 0b0100 d k]
  | .sbiw d k => [encPairK6 0b10010111 d k]
  | .and d r => [encRdRr 0b001000 d r]
  | .andi d k => [encRdK8 0b0111 d k]
  | .or d r => [encRdRr 0b001010 d r]
  | .ori d k => [encRdK8 0b0110 d k]
  | .eor d r => [encRdRr 0b001001 d r]
  | .com d => [encRd d 0b0000]
  | .neg d => [encRd d 0b0001]
  | .sbr d k => [encRdK8 0b0110 d k]
  | .cbr d k => [encRdK8 0b0111 d (~~~k)]
  | .inc d => [encRd d 0b0011]
  | .dec d => [encRd d 0b1010]
  | .tst d => [encRdRr 0b001000 d d]
  | .clr d => [encRdRr 0b001001 d d]
  | .ser d => [encRdK8 0b1110 d 0xFF]
  | .mul d r => [encRdRr 0b100111 d r]
  | .muls d r => [encRd4Rr4 0b00000010 d r]
  | .mulsu d r => [encRd3Rr3 0 0 d r]
  | .fmul d r => [encRd3Rr3 0 1 d r]
  | .fmuls d r => [encRd3Rr3 1 0 d r]
  | .fmulsu d r => [encRd3Rr3 1 1 d r]
  | .rjmp k => [encRel12 0 k]
  | .ijmp => [0x9409]
  | .jmp k => encAbs22 0 k
  | .rcall k => [encRel12 1 k]
  | .icall => [0x9509]
  | .call k => encAbs22 1 k
  | .ret => [0x9508]
  | .reti => [0x9518]
  | .cpse d r => [encRdRr 0b000100 d r]
  | .cp d r => [encRdRr 0b000101 d r]
  | .cpc d r => [encRdRr 0b000001 d r]
  | .cpi d k => [encRdK8 0b0011 d k]
  | .sbrc r b => [encRegBit 0b10 r b]
  | .sbrs r b => [encRegBit 0b11 r b]
  | .sbic a b => [encIOBit 0b01 a b]
  | .sbis a b => [encIOBit 0b11 a b]
  | .brbs f k => [encBr 0 f k]
  | .brbc f k => [encBr 1 f k]
  | .breq k => [encBr 0 1 k]
  | .brne k => [encBr 1 1 k]
  | .brcs k => [encBr 0 0 k]
  | .brcc k => [encBr 1 0 k]
  | .brsh k => [encBr 1 0 k]
  | .brlo k => [encBr 0 0 k]
  | .brmi k => [encBr 0 2 k]
  | .brpl k => [encBr 1 2 k]
  | .brge k => [encBr 1 4 k]
  | .brlt k => [encBr 0 4 k]
  | .brhs k => [encBr 0 5 k]
  | .brhc k => [encBr 1 5 k]
  | .brts k => [encBr 0 6 k]
  | .brtc k => [encBr 1 6 k]
  | .brvs k => [encBr 0 3 k]
  | .brvc k => [encBr 1 3 k]
  | .brie k => [encBr 0 7 k]
  | .brid k => [encBr 1 7 k]
  | .mov d r => [encRdRr 0b001011 d r]
  | .movw d r => [encPairPair d r]
  | .ldi d k => [encRdK8 0b1110 d k]
  | .ldX d => [encLdSt 0 d 0b1100]
  | .ldXInc d => [encLdSt 0 d 0b1101]
  | .ldXDec d => [encLdSt 0 d 0b1110]
  | .ldY d => [encLddStd 0 1 d 0]
  | .ldYInc d => [encLdSt 0 d 0b1001]
  | .ldYDec d => [encLdSt 0 d 0b1010]
  | .lddY d q => [encLddStd 0 1 d q]
  | .ldZ d => [encLddStd 0 0 d 0]
  | .ldZInc d => [encLdSt 0 d 0b0001]
  | .ldZDec d => [encLdSt 0 d 0b0010]
  | .lddZ d q => [encLddStd 0 0 d q]
  | .lds d k => [encLdSt 0 d 0b0000, k]
  | .stX r => [encLdSt 1 r 0b1100]
  | .stXInc r => [encLdSt 1 r 0b1101]
  | .stXDec r => [encLdSt 1 r 0b1110]
  | .stY r => [encLddStd 1 1 r 0]
  | .stYInc r => [encLdSt 1 r 0b1001]
  | .stYDec r => [encLdSt 1 r 0b1010]
  | .stdY q r => [encLddStd 1 1 r q]
  | .stZ r => [encLddStd 1 0 r 0]
  | .stZInc r => [encLdSt 1 r 0b0001]
  | .stZDec r => [encLdSt 1 r 0b0010]
  | .stdZ q r => [encLddStd 1 0 r q]
  | .sts k r => [encLdSt 1 r 0b0000, k]
  | .lpm => [0x95C8]
  | .lpmZ d => [encLdSt 0 d 0b0100]
  | .lpmZInc d => [encLdSt 0 d 0b0101]
  | .spm => [0x95E8]
  | .inp d a => [encIO 0 d a]
  | .out a r => [encIO 1 r a]
  | .push r => [encLdSt 1 r 0b1111]
  | .pop d => [encLdSt 0 d 0b1111]
  | .sbi a b => [encIOBit 0b10 a b]
  | .cbi a b => [encIOBit 0b00 a b]
  | .lsl d => [encRdRr 0b000011 d d]
  | .lsr d => [encRd d 0b0110]
  | .rol d => [encRdRr 0b000111 d d]
  | .ror d => [encRd d 0b0111]
  | .asr d => [encRd d 0b0101]
  | .swap d => [encRd d 0b0010]
  | .bst r b => [encRegBit 0b01 r b]
  | .bld d b => [encRegBit 0b00 d b]
  | .bset f => [encSregBit 0 f]
  | .bclr f => [encSregBit 1 f]
  | .sec => [encSregBit 0 0]
  | .clc => [encSregBit 1 0]
  | .sen => [encSregBit 0 2]
  | .cln => [encSregBit 1 2]
  | .sez => [encSregBit 0 1]
  | .clz => [encSregBit 1 1]
  | .sei => [encSregBit 0 7]
  | .cli => [encSregBit 1 7]
  | .ses => [encSregBit 0 4]
  | .cls => [encSregBit 1 4]
  | .sev => [encSregBit 0 3]
  | .clv => [encSregBit 1 3]
  | .setT => [encSregBit 0 6]
  | .clt => [encSregBit 1 6]
  | .seh => [encSregBit 0 5]
  | .clh => [encSregBit 1 5]
  | .nop => [0x0000]
  | .sleep => [0x9588]
  | .wdr => [0x95A8]
  | .brk => [0x9598]

/-- The canonical instruction whose words these are: an alias's expansion, every other instruction itself
(30_encoding.md R103). -/
def Instr.canonical : Instr → Instr
  | .add d r => .add d r
  | .adc d r => .adc d r
  | .adiw d k => .adiw d k
  | .sub d r => .sub d r
  | .subi d k => .subi d k
  | .sbc d r => .sbc d r
  | .sbci d k => .sbci d k
  | .sbiw d k => .sbiw d k
  | .and d r => .and d r
  | .andi d k => .andi d k
  | .or d r => .or d r
  | .ori d k => .ori d k
  | .eor d r => .eor d r
  | .com d => .com d
  | .neg d => .neg d
  | .sbr d k => .ori d k
  | .cbr d k => .andi d (~~~k)
  | .inc d => .inc d
  | .dec d => .dec d
  | .tst d => .and d d
  | .clr d => .eor d d
  | .ser d => .ldi d 0xFF
  | .mul d r => .mul d r
  | .muls d r => .muls d r
  | .mulsu d r => .mulsu d r
  | .fmul d r => .fmul d r
  | .fmuls d r => .fmuls d r
  | .fmulsu d r => .fmulsu d r
  | .rjmp k => .rjmp k
  | .ijmp => .ijmp
  | .jmp k => .jmp k
  | .rcall k => .rcall k
  | .icall => .icall
  | .call k => .call k
  | .ret => .ret
  | .reti => .reti
  | .cpse d r => .cpse d r
  | .cp d r => .cp d r
  | .cpc d r => .cpc d r
  | .cpi d k => .cpi d k
  | .sbrc r b => .sbrc r b
  | .sbrs r b => .sbrs r b
  | .sbic a b => .sbic a b
  | .sbis a b => .sbis a b
  | .brbs f k => .brbs f k
  | .brbc f k => .brbc f k
  | .breq k => .brbs 1 k
  | .brne k => .brbc 1 k
  | .brcs k => .brbs 0 k
  | .brcc k => .brbc 0 k
  | .brsh k => .brbc 0 k
  | .brlo k => .brbs 0 k
  | .brmi k => .brbs 2 k
  | .brpl k => .brbc 2 k
  | .brge k => .brbc 4 k
  | .brlt k => .brbs 4 k
  | .brhs k => .brbs 5 k
  | .brhc k => .brbc 5 k
  | .brts k => .brbs 6 k
  | .brtc k => .brbc 6 k
  | .brvs k => .brbs 3 k
  | .brvc k => .brbc 3 k
  | .brie k => .brbs 7 k
  | .brid k => .brbc 7 k
  | .mov d r => .mov d r
  | .movw d r => .movw d r
  | .ldi d k => .ldi d k
  | .ldX d => .ldX d
  | .ldXInc d => .ldXInc d
  | .ldXDec d => .ldXDec d
  | .ldY d => .lddY d 0
  | .ldYInc d => .ldYInc d
  | .ldYDec d => .ldYDec d
  | .lddY d q => .lddY d q
  | .ldZ d => .lddZ d 0
  | .ldZInc d => .ldZInc d
  | .ldZDec d => .ldZDec d
  | .lddZ d q => .lddZ d q
  | .lds d k => .lds d k
  | .stX r => .stX r
  | .stXInc r => .stXInc r
  | .stXDec r => .stXDec r
  | .stY r => .stdY 0 r
  | .stYInc r => .stYInc r
  | .stYDec r => .stYDec r
  | .stdY q r => .stdY q r
  | .stZ r => .stdZ 0 r
  | .stZInc r => .stZInc r
  | .stZDec r => .stZDec r
  | .stdZ q r => .stdZ q r
  | .sts k r => .sts k r
  | .lpm => .lpm
  | .lpmZ d => .lpmZ d
  | .lpmZInc d => .lpmZInc d
  | .spm => .spm
  | .inp d a => .inp d a
  | .out a r => .out a r
  | .push r => .push r
  | .pop d => .pop d
  | .sbi a b => .sbi a b
  | .cbi a b => .cbi a b
  | .lsl d => .add d d
  | .lsr d => .lsr d
  | .rol d => .adc d d
  | .ror d => .ror d
  | .asr d => .asr d
  | .swap d => .swap d
  | .bst r b => .bst r b
  | .bld d b => .bld d b
  | .bset f => .bset f
  | .bclr f => .bclr f
  | .sec => .bset 0
  | .clc => .bclr 0
  | .sen => .bset 2
  | .cln => .bclr 2
  | .sez => .bset 1
  | .clz => .bclr 1
  | .sei => .bset 7
  | .cli => .bclr 7
  | .ses => .bset 4
  | .cls => .bclr 4
  | .sev => .bset 3
  | .clv => .bclr 3
  | .setT => .bset 6
  | .clt => .bclr 6
  | .seh => .bset 5
  | .clh => .bclr 5
  | .nop => .nop
  | .sleep => .sleep
  | .wdr => .wdr
  | .brk => .brk

/-- A word list as program-memory bytes, each word's low byte first (20_memory.md R60). -/
def wordBytes : List Word → List Byte
  | [] => []
  | w :: ws => lowByte w :: highByte w :: wordBytes ws

/-- The instruction words of the bits `w`: the first word is bits 15..0, the second bits 31..16, every bit at or above
`nbits` is 0. -/
def tableWords (nbits w : Nat) : Word × Word :=
  (BitVec.ofNat 16 (w % 2 ^ nbits), BitVec.ofNat 16 (w % 2 ^ nbits / 2 ^ 16))

/-- What the decoder reads from an instruction whose bits are `w`, numbered as spec/opcode_table.json numbers them. -/
def decodeTableWord (nbits w : Nat) : Option Instr :=
  match decode (wordBytes [(tableWords nbits w).1, (tableWords nbits w).2]) with
  | .ok (i, _) => some i
  | .error _ => none

end Sys2Proof
end

