-- ==== Sys2Proof/Machine/State.lean ====
section
/-!
DEFINITION. The state of the machine as plain data, its faults and refusals, and the machine right after reset
(10_state.md R20 to R37; INVENTORY.md, heading State).
-/

namespace Sys2Proof.Machine

/-- The status register: eight one-bit flags, none reserved (10_state.md R26, R27), named by the spec's letters.
As a byte it is `I:T:H:S:V:N:Z:C` (`Sreg.toByte` of Flags.lean; log 26). -/
structure Sreg where
  /-- Carry Flag, bit 0. -/
  c : Bool
  /-- Zero Flag, bit 1. -/
  z : Bool
  /-- Negative Flag, bit 2. -/
  n : Bool
  /-- Two's Complement Overflow Flag, bit 3. -/
  v : Bool
  /-- Sign Flag, bit 4. -/
  s : Bool
  /-- Half Carry Flag, bit 5. -/
  h : Bool
  /-- Copy Storage, bit 6. -/
  t : Bool
  /-- Global Interrupt Enable Bit, bit 7. -/
  i : Bool
  deriving DecidableEq, Repr

/-- What the environment does between two instructions (60_exceptions.md R340, EnvStep); a field left at its default
does nothing. -/
structure EnvAction where
  /-- The devices change state on their own. -/
  dev : Option Nat := none
  /-- Requests raised; only those of the configured sources count. -/
  raise : IntSet := 0
  /-- Requests withdrawn; only level-type ones can be. -/
  withdraw : IntSet := 0
  /-- A reset, if the configuration allows one (R325, R351). -/
  reset : Option ResetSource := none
  deriving DecidableEq, Repr

/-- The state of the machine. -/
structure State where
  /-- R0..R31 (10_state.md R20). -/
  regs : Vector Byte 32
  /-- The program counter, a word address (R23). -/
  pc : ProgAddr
  /-- The status register (R26, R27). -/
  sreg : Sreg
  /-- The stack pointer (R29). The bits above `SP_BITS` are 0; `State.stackPtr` of Ops.lean reads it (log 13). -/
  sp : Word
  /-- The SRAM bytes written so far, by data address 0x0100..0x08FF (R34). -/
  sram : Memory
  /-- The program-memory bytes that are not 0xFF, by byte address 0x0000..0x7FFF (R33, 20_memory.md R59). -/
  flash : Memory
  /-- `Dev`: what the peripheral devices have seen, newest first (R35, 20_memory.md R56; log 4). -/
  dev : List DevEvent
  /-- `IntPending` (R35, 60_exceptions.md R314). -/
  pending : IntSet
  /-- `IntInhibit` (R35, 60_exceptions.md R319). -/
  inhibit : Bool
  /-- `Sleeping` (R35, 44_mcu_control.md R301). -/
  sleeping : Bool
  /-- The configuration; no step changes it (00_scope.md R5; log 7). -/
  cfg : Config
  /-- The environment's coming actions, one taken at the start of each step (60_exceptions.md R340; log 6). -/
  env : List EnvAction
  /-- Which power-up this is: the index unwritten SRAM bytes are drawn by (log 2). -/
  powerUp : Nat
  /-- Clocks so far (70_reset_and_hazards.md R363; log 21). -/
  cycles : Nat
  deriving DecidableEq, Repr

/-- Which way a data-space access went (60_exceptions.md R311). -/
inductive Access where
  | read
  | write
  deriving DecidableEq, Repr

/-- The model faults of 60_exceptions.md R311. The hardware itself has none (R310). A fault ends the run; all are SAFE:
the model stops where the hardware goes on in a way the spec does not describe. -/
inductive Fault where
  /-- Raised by fetch: the first word `w` at `pc` matches no row (30_encoding.md R106, D17). Safe. -/
  | illegalInstruction (w : Word) (pc : ProgAddr)
  /-- Raised by LD, ST and LPM with pointer update whose data register `r` is part of the pointer, before any state
  changes (42_data_transfer.md R213, D18). Safe. -/
  | undefinedOperand (mnemonic : String) (r : Reg)
  /-- Raised by any data-space access above RAMEND (20_memory.md R52, R53, D14). Safe. -/
  | unmappedData (addr : Word) (access : Access)
  /-- Raised by LPM with a byte address above 0x7FFF (20_memory.md R59, D15). Safe. -/
  | unmappedProgram (byteAddr : Word)
  /-- `Unsupported(SPM)`, raised by SPM always (42_data_transfer.md R244, D19). Safe. -/
  | unsupportedSpm
  /-- `Unsupported(BREAK)`, raised by BREAK when OCD_ENABLED (44_mcu_control.md R303, D22). Safe. -/
  | unsupportedBreak
  deriving DecidableEq, Repr

/-- The refusals. Every instruction has its meaning, so no arm answers one. -/
inductive Refusal where
  /-- Raised by an arm of `exec` whose instruction has no meaning yet; none is left. Safe. -/
  | notModelled (mnemonic : String)
  deriving DecidableEq, Repr

/-- All flags 0, as after reset (10_state.md R37; 70_reset_and_hazards.md R353 item 4). -/
def Sreg.clear : Sreg :=
  { c := false, z := false, n := false, v := false, s := false, h := false, t := false, i := false }

/-- The machine right after a power-on reset, nothing loaded (10_state.md R37; 70_reset_and_hazards.md R350): so SP already
points to the end of SRAM and all flags are 0, as R353 items 1 and 4 rely on. Every register R0..R31 is 0 by DESIGN CHOICE
(log 1); SRAM and flash list nothing (log 2, 3); `cfg` holds the defaults (log 7); the environment is quiet (log 6). -/
def State.reset : State where
  regs := Vector.replicate 32 0
  pc := ({} : Config).resetPc
  sreg := Sreg.clear
  sp := BitVec.ofNat 16 ({} : Config).hw.ramEnd
  sram := []
  flash := []
  dev := []
  pending := 0
  inhibit := false
  sleeping := false
  cfg := {}
  env := []
  powerUp := 0
  cycles := 0

end Sys2Proof.Machine
end

