-- ==== Sys2Proof/Machine/Flags.lean ====
section
/-!
DEFINITION. SREG as a byte and by bit number, and every flag computation of the spec: 40_arithmetic_logic.md R121 to R125,
R143, R144 and 43_bit_and_bit_test.md R261. Each function answers the whole new SREG; a flag it does not name is unchanged.
-/

namespace Sys2Proof.Machine

namespace Sreg

/-- Flag number `f`: 0 C, 1 Z, 2 N, 3 V, 4 S, 5 H, 6 T, 7 I (10_state.md R27). -/
def get (r : Sreg) (f : BitPos) : Bool :=
  match f with
  | 0 => r.c
  | 1 => r.z
  | 2 => r.n
  | 3 => r.v
  | 4 => r.s
  | 5 => r.h
  | 6 => r.t
  | 7 => r.i

/-- `SREG(f) <- x` (43_bit_and_bit_test.md R272, R273). -/
def set (r : Sreg) (f : BitPos) (x : Bool) : Sreg :=
  match f with
  | 0 => { r with c := x }
  | 1 => { r with z := x }
  | 2 => { r with n := x }
  | 3 => { r with v := x }
  | 4 => { r with s := x }
  | 5 => { r with h := x }
  | 6 => { r with t := x }
  | 7 => { r with i := x }

/-- The byte `I:T:H:S:V:N:Z:C` (10_state.md R27). -/
def toByte (r : Sreg) : Byte :=
  BitVec.ofBool r.i ++ BitVec.ofBool r.t ++ BitVec.ofBool r.h ++ BitVec.ofBool r.s
    ++ BitVec.ofBool r.v ++ BitVec.ofBool r.n ++ BitVec.ofBool r.z ++ BitVec.ofBool r.c

/-- `I:T:H:S:V:N:Z:C <- v` (20_memory.md R53). -/
def ofByte (v : Byte) : Sreg where
  c := v.getLsbD 0
  z := v.getLsbD 1
  n := v.getLsbD 2
  v := v.getLsbD 3
  s := v.getLsbD 4
  h := v.getLsbD 5
  t := v.getLsbD 6
  i := v.getLsbD 7

/-- Sets N and V as given and S to `N ^ V`, as every arithmetic rule does (40_arithmetic_logic.md R121 to R124). -/
def withNV (r : Sreg) (n v : Bool) : Sreg := { r with n := n, v := v, s := n ^^ v }

end Sreg

/-- `AddFlags(a, b, cin)` (40_arithmetic_logic.md R121). -/
def addFlags (a b : Byte) (cin : Bool) (r : Sreg) : Sreg :=
  let res := a + b + bit8 cin
  let carry (i : Nat) : Bool :=
    (a.getLsbD i && b.getLsbD i) || (b.getLsbD i && !res.getLsbD i) || (!res.getLsbD i && a.getLsbD i)
  let v := (a.getLsbD 7 && b.getLsbD 7 && !res.getLsbD 7) || (!a.getLsbD 7 && !b.getLsbD 7 && res.getLsbD 7)
  { r.withNV (res.getLsbD 7) v with h := carry 3, c := carry 7, z := res == 0 }

/-- `SubFlags(a, b, cin, keepZ)` (40_arithmetic_logic.md R122). -/
def subFlags (a b : Byte) (cin keepZ : Bool) (r : Sreg) : Sreg :=
  let res := a - b - bit8 cin
  let borrow (i : Nat) : Bool :=
    (!a.getLsbD i && b.getLsbD i) || (b.getLsbD i && res.getLsbD i) || (res.getLsbD i && !a.getLsbD i)
  let v := (a.getLsbD 7 && !b.getLsbD 7 && !res.getLsbD 7) || (!a.getLsbD 7 && b.getLsbD 7 && res.getLsbD 7)
  { r.withNV (res.getLsbD 7) v with
    h := borrow 3, c := borrow 7, z := if keepZ then res == 0 && r.z else res == 0 }

/-- `LogicFlags(res)` (40_arithmetic_logic.md R123). -/
def logicFlags (res : Byte) (r : Sreg) : Sreg := { r.withNV (res.getLsbD 7) false with z := res == 0 }

/-- The flags of COM: those of the logic instructions, and C set (40_arithmetic_logic.md R139). -/
def comFlags (res : Byte) (r : Sreg) : Sreg := { logicFlags res r with c := true }

/-- `WordFlags(ADIW, a, res)` (40_arithmetic_logic.md R124). -/
def adiwFlags (a res : Word) (r : Sreg) : Sreg :=
  { r.withNV (res.getLsbD 15) (!a.getLsbD 15 && res.getLsbD 15) with
    c := !res.getLsbD 15 && a.getLsbD 15, z := res == 0 }

/-- `WordFlags(SBIW, a, res)` (40_arithmetic_logic.md R124). -/
def sbiwFlags (a res : Word) (r : Sreg) : Sreg :=
  { r.withNV (res.getLsbD 15) (a.getLsbD 15 && !res.getLsbD 15) with
    c := res.getLsbD 15 && !a.getLsbD 15, z := res == 0 }

/-- `MulFlags` of the product `p` and the 16-bit result `res`, which is `p` itself or `p` shifted left one place: C is
bit 15 of the product before the shift, Z tests the result (40_arithmetic_logic.md R125). -/
def mulFlags (p res : Word) (r : Sreg) : Sreg := { r with c := p.getLsbD 15, z := res == 0 }

/-- The flags of INC (40_arithmetic_logic.md R143). -/
def incFlags (res : Byte) (r : Sreg) : Sreg := { r.withNV (res.getLsbD 7) (res == 0x80) with z := res == 0 }

/-- The flags of DEC (40_arithmetic_logic.md R144). -/
def decFlags (res : Byte) (r : Sreg) : Sreg := { r.withNV (res.getLsbD 7) (res == 0x7F) with z := res == 0 }

/-- `ShiftRightFlags(a, res)` (43_bit_and_bit_test.md R261). -/
def shiftRightFlags (a res : Byte) (r : Sreg) : Sreg :=
  let c := a.getLsbD 0
  let n := res.getLsbD 7
  { r.withNV n (n ^^ c) with c := c, z := res == 0 }

end Sys2Proof.Machine
end

