-- ==== Sys2Proof/Machine/Memory.lean ====
section
/-!
DEFINITION. Memory as a list of (address, byte) pairs in canonical form, and the two memories of the machine read and
written through it: SRAM (10_state.md R34) and program memory (R33, 20_memory.md R58, R59).
-/

namespace Sys2Proof

namespace Memory

/-- The byte listed at an address. -/
def get : Memory → Nat → Option Byte
  | [], _ => none
  | (b, w) :: m, a => if a = b then some w else get m a

/-- Lists the byte `v` at address `a`, in place of what was listed there. -/
def put : Memory → Nat → Byte → Memory
  | [], a, v => [(a, v)]
  | (b, w) :: m, a, v =>
    if a < b then (a, v) :: (b, w) :: m
    else if a = b then (a, v) :: m
    else (b, w) :: put m a v

/-- Lists nothing at address `a`. -/
def drop : Memory → Nat → Memory
  | [], _ => []
  | (b, w) :: m, a => if a = b then drop m a else (b, w) :: drop m a

/-- Addresses strictly rising. -/
abbrev Rising (m : Memory) : Prop := m.Pairwise fun x y => x.1 < y.1

/-- The canonical form of SRAM. An unlisted byte is one nothing has written: it reads as a free value, so no listed byte
can repeat what unlisted ones read as (log 2). -/
abbrev wfSram (hw : Hardware) (m : Memory) : Prop :=
  Rising m ∧ ∀ c ∈ m, hw.sramStart ≤ c.1 ∧ c.1 ≤ hw.ramEnd

/-- The canonical form of program memory: an unlisted byte is erased (70_reset_and_hazards.md R352), so no listed byte is
0xFF (log 3). -/
abbrev wfFlash (hw : Hardware) (m : Memory) : Prop :=
  Rising m ∧ ∀ c ∈ m, c.1 < 2 * hw.flashWords ∧ c.2 ≠ Config.erasedByte

/-- The byte of program memory at a byte address (20_memory.md R59, 70_reset_and_hazards.md R352). -/
def flashGet (m : Memory) (a : Nat) : Byte := (get m a).getD Config.erasedByte

/-- Program memory with the byte `v` at byte address `a`, in canonical form. -/
def flashPut (m : Memory) (a : Nat) (v : Byte) : Memory :=
  if v = Config.erasedByte then drop m a else put m a v

end Memory

namespace Machine

namespace State

/-- The SRAM byte at a data address: what was written last, and before any write a free value of the power-up and the
address (20_memory.md R52, 10_state.md R37; log 2). -/
def sramByte (s : State) (a : Word) : Byte := (s.sram.get a.toNat).getD (Config.sramPowerOn s.powerUp a)

/-- `SRAM[a] <- v` (20_memory.md R53). -/
def setSramByte (s : State) (a : Word) (v : Byte) : State := { s with sram := s.sram.put a.toNat v }

/-- A byte of program memory by its byte address 0x0000..0x7FFF, low byte of each word first (20_memory.md R59). -/
def progByte (s : State) (b : BitVec 15) : Byte := s.flash.flashGet b.toNat

/-- `ProgWord(w)`; every 14-bit word address exists (20_memory.md R58). -/
def progWord (s : State) (w : ProgAddr) : Word := ofBytes (s.progByte (w ++ 1#1)) (s.progByte (w ++ 0#1))

/-- Places a word in program memory: the host's load of an image, word by word (70_reset_and_hazards.md R352; log 3).
No instruction does this (20_memory.md R69). -/
def loadWord (s : State) (w : ProgAddr) (v : Word) : State :=
  { s with
    flash := (s.flash.flashPut (w ++ 0#1).toNat (lowByte v)).flashPut (w ++ 1#1).toNat (highByte v) }

end State

end Machine

end Sys2Proof
end

