-- ==== Sys2Proof/Machine/Ops.lean ====
section
/-!
DEFINITION. The named operations over registers, memory, devices and the stack; taking an interrupt and the return from
one; reset; the environment's action; fetch (20_memory.md R52 to R59, 41_branch.md R161 to R163, 42_data_transfer.md R211,
R212, 60_exceptions.md R312 to R319, 70_reset_and_hazards.md R351).
-/

namespace Sys2Proof.Machine

/-- What a meaning answers. -/
abbrev Result := Host.Outcome State Fault Refusal

/-- A meaning's answer from a computation that may fault. -/
def finish : Except Fault State → Result
  | .ok s => .next s
  | .error f => .fault f

namespace State

/-- `R[i]` (10_state.md R20). -/
def reg (s : State) (i : Reg) : Byte := s.regs[i.val]

/-- `R[i] <- v`. No register is hard-wired (10_state.md R20). -/
def setReg (s : State) (i : Reg) (v : Byte) : State := { s with regs := s.regs.set i.val v }

/-- Replaces the flags. -/
def setSreg (s : State) (r : Sreg) : State := { s with sreg := r }

/-- `pc <- a`. -/
def setPc (s : State) (a : ProgAddr) : State := { s with pc := a }

/-- A stack address cut to `SP_BITS`: SP arithmetic is modulo `2^SP_BITS` and SPH's upper bits do not exist
(10_state.md R29, D8; log 13). -/
def trimSp (s : State) (a : Word) : Word := BitVec.ofNat 16 (a.toNat % s.cfg.spBits.size)

/-- `SP`, zero-extended to a data address (10_state.md R29). -/
def stackPtr (s : State) : Word := s.trimSp s.sp

/-- `SP <- a`. -/
def setSp (s : State) (a : Word) : State := { s with sp := s.trimSp a }

/-- `pc <- pc + n`, modulo 2^14 (10_state.md R24, R25). -/
def advance (s : State) (n : ProgAddr) : State := s.setPc (s.pc + n)

/-- The register pair `R[d+1]:R[d]` (10_state.md R21). -/
def pair (s : State) (d : Reg) : Word := ofBytes (s.reg (d + 1)) (s.reg d)

/-- `R[d] <- v[7:0]; R[d+1] <- v[15:8]` (10_state.md R21, 42_data_transfer.md R213). -/
def setPair (s : State) (d : Reg) (v : Word) : State := (s.setReg d (lowByte v)).setReg (d + 1) (highByte v)

/-- `IntInhibit <- true` (60_exceptions.md R319). -/
def inhibitOne (s : State) : State := { s with inhibit := true }

/-- A whole write of SREG: if it changes I from 0 to 1, `IntInhibit <- true` (20_memory.md R53, 60_exceptions.md R319). -/
def writeSreg (s : State) (r : Sreg) : State :=
  { s with sreg := r, inhibit := s.inhibit || (!s.sreg.i && r.i) }

/-- Sets one flag of SREG, with the same rule for I (43_bit_and_bit_test.md R272, R273). -/
def writeFlag (s : State) (f : BitPos) (x : Bool) : State := s.writeSreg (s.sreg.set f x)

end State

/-! ### Devices -/

/-- GPIOR content when the refinement is on: the byte last written, before that a free value (log 10). -/
def gpiorByte (oracle : Nat) : List DevEvent → Word → Byte
  | [], a => Config.devRead oracle [] a
  | .write b v :: l, a => if b = a then v else gpiorByte oracle l a
  | .reset src :: l, a => Config.devRead oracle (.reset src :: l) a
  | _ :: l, a => gpiorByte oracle l a

namespace State

/-- The byte a device register reads as: a free value of the configuration's device oracle and the devices' history, so
possibly different on each read (20_memory.md R56, 00_scope.md R5; log 4). -/
def deviceByte (s : State) (a : Word) : Byte :=
  if s.cfg.gpiorStorage && Config.gpiorAddrs.contains a then gpiorByte s.cfg.devOracle s.dev a
  else Config.devRead s.cfg.devOracle s.dev a

/-- `Dev.read(addr)`: the read itself may change device state (20_memory.md R56). -/
def deviceAfterRead (s : State) (a : Word) : State := { s with dev := .read a :: s.dev }

/-- `Dev.write(addr, v)`: changes only `Dev` and, through it, possibly `IntPending` (20_memory.md R56). Which requests are
then pending is a free value among the configured sources; with none configured nothing can be pending (log 5). -/
def deviceWrite (s : State) (a : Word) (v : Byte) : State :=
  { s with
    dev := .write a v :: s.dev
    pending :=
      if s.cfg.requests = 0 then s.pending
      else Config.pendingAfterWrite s.cfg.devOracle (.write a v :: s.dev) s.pending &&& s.cfg.requests }

/-- `Dev.event(WDR)` (44_mcu_control.md R302). -/
def deviceWdr (s : State) : State := { s with dev := .wdr :: s.dev }

/-- `SLEEP_ENABLED` (44_mcu_control.md R301). Looking at the bit of SMCR is no device access: DESIGN CHOICE (log 8). -/
def sleepEnabled (s : State) : Bool :=
  match s.cfg.sleepEnable with
  | .never => false
  | .always => true
  | .smcr => (s.deviceByte Config.smcrAddr).getLsbD 0

end State

/-! ### The data space -/

/-- What a data-space address names (20_memory.md R51, R52, R53). -/
inductive DataCell where
  | register (i : Reg)
  | spl
  | sph
  | sreg
  | device
  | sram
  | unmapped
  deriving DecidableEq, Repr

/-- The data-space map, tested in the order of 20_memory.md R52, each range where the configuration has it (R51,
00_scope.md R5). -/
def dataCell (c : Config) (a : Word) : DataCell :=
  if h : c.hw.regFileStart ≤ a.toNat ∧ a.toNat ≤ c.hw.regFileEnd then .register (c.regAt h.2)
  else if a = c.splAddr then .spl
  else if a = c.sphAddr then .sph
  else if a = c.sregAddr then .sreg
  else if c.hw.ioStart ≤ a.toNat ∧ a.toNat ≤ c.hw.ioEnd then .device
  else if c.hw.extIoStart ≤ a.toNat ∧ a.toNat ≤ c.hw.extIoEnd then .device
  else if c.hw.sramStart ≤ a.toNat ∧ a.toNat ≤ c.hw.ramEnd then .sram
  else .unmapped

/-- `MemRead(addr, 1)` (20_memory.md R52): the byte, and the state a read of a device register leaves. -/
def memRead (a : Word) (s : State) : Except Fault (Byte × State) :=
  match dataCell s.cfg a with
  | .register i => .ok (s.reg i, s)
  | .spl => .ok (lowByte s.stackPtr, s)
  | .sph => .ok (highByte s.stackPtr, s)
  | .sreg => .ok (s.sreg.toByte, s)
  | .device => .ok (s.deviceByte a, s.deviceAfterRead a)
  | .sram => .ok (s.sramByte a, s)
  | .unmapped => .error (.unmappedData a .read)

/-- `MemWrite(addr, 1, v)` (20_memory.md R53). -/
def memWrite (a : Word) (v : Byte) (s : State) : Except Fault State :=
  match dataCell s.cfg a with
  | .register i => .ok (s.setReg i v)
  | .spl => .ok (s.setSp (ofBytes (highByte s.stackPtr) v))
  | .sph => .ok (s.setSp (ofBytes v (lowByte s.stackPtr)))
  | .sreg => .ok (s.writeSreg (Sreg.ofByte v))
  | .device => .ok (s.deviceWrite a v)
  | .sram => .ok (s.setSramByte a v)
  | .unmapped => .error (.unmappedData a .write)

/-- The data address of a 6-bit I/O address (20_memory.md R54). -/
def ioAddr (c : Config) (a : BitVec 6) : Word := BitVec.ofNat 16 (c.hw.ioOffset + a.toNat)

/-- The data address of a 5-bit I/O address (20_memory.md R54, 30_encoding.md R94). -/
def ioAddr5 (c : Config) (a : BitVec 5) : Word := BitVec.ofNat 16 (c.hw.ioOffset + a.toNat)

/-! ### Program memory as bytes -/

/-- `ProgByte(b)` (20_memory.md R59): program memory has no word above `FLASHEND`. -/
def progRead (b : Word) (s : State) : Except Fault Byte :=
  if b.toNat / 2 ≤ s.cfg.hw.flashEnd then .ok (s.progByte (b.setWidth 15)) else .error (.unmappedProgram b)

/-! ### The stack -/

/-- `Push8(v)`: stores at SP, then decrements it (42_data_transfer.md R211). -/
def push8 (v : Byte) (s : State) : Except Fault State :=
  match memWrite s.stackPtr v s with
  | .ok s => .ok (s.setSp (s.stackPtr - 1))
  | .error f => .error f

/-- `Pop8()`: increments SP, then loads from it (42_data_transfer.md R212). -/
def pop8 (s : State) : Except Fault (Byte × State) :=
  let s := s.setSp (s.stackPtr + 1)
  memRead s.stackPtr s

/-- Pushes the `n` lowest bytes of `a`, the lowest first. -/
def pushBytes : Nat → Word → State → Except Fault State
  | 0, _, s => .ok s
  | n + 1, a, s =>
    match push8 (lowByte a) s with
    | .ok s => pushBytes n (a >>> 8) s
    | .error f => .error f

/-- Pops `n` bytes below the bytes `a` popped before them, the highest first. -/
def popBytes : Nat → Word → State → Except Fault (Word × State)
  | 0, a, s => .ok (a, s)
  | n + 1, a, s =>
    match pop8 s with
    | .ok (v, s) => popBytes n (ofBytes (lowByte a) v) s
    | .error f => .error f

/-- `PushPC(a)`, of `RET_ADDR_BYTES` bytes (00_scope.md R5): the low byte first, at the higher address, then the high byte
with its upper two bits 0 (41_branch.md R161). -/
def pushPC (a : ProgAddr) (s : State) : Except Fault State := pushBytes s.cfg.hw.retAddrBytes (a.setWidth 16) s

/-- `PopPC()`, of `RET_ADDR_BYTES` bytes: the high byte, then the low byte; bits 15:14 are dropped (41_branch.md R162). -/
def popPC (s : State) : Except Fault (ProgAddr × State) :=
  match popBytes s.cfg.hw.retAddrBytes 0 s with
  | .ok (a, s) => .ok (a.setWidth 14, s)
  | .error f => .error f

/-! ### Interrupts -/

/-- `min(IntPending)`: the pending request of the lowest vector index, which is taken first (60_exceptions.md R315). -/
def lowestRequest (c : Config) (p : IntSet) : Option Nat :=
  (List.range' 1 (c.hw.vectorCount - 1)).find? fun n => p.getLsbD n

namespace State

/-- The request taken before the next instruction, if any: only while I = 1 and not in the instruction after I was
enabled (60_exceptions.md R314, R316, R319). -/
def interruptDue (s : State) (inhibited : Bool) : Option Nat :=
  if s.sreg.i && !inhibited then lowestRequest s.cfg s.pending else none

/-- The word address of vector `n` (60_exceptions.md R313; 70_reset_and_hazards.md R353 items 5 and 6). -/
def vector (s : State) (n : Nat) : ProgAddr := s.cfg.vectorBase + BitVec.ofNat 14 (s.cfg.hw.vectorWords * n)

/-- Entry removes a flag-type request; a level-type one persists (60_exceptions.md R314, R316). -/
def acknowledge (s : State) (n : Nat) : State :=
  if s.cfg.levelSources.getLsbD n then s else { s with pending := s.pending &&& ~~~(1#26 <<< n) }

end State

/-- TAKING AN EXCEPTION: interrupt entry for vector `n` (60_exceptions.md R316). It saves the pc on the stack as CALL
does, clears I, wakes the CPU and goes to the vector; nothing else is saved or changed (R321). -/
def takeInterrupt (n : Nat) (s : State) : Except Fault State :=
  let s := s.acknowledge n
  let s := s.setSreg { s.sreg with i := false }
  match pushPC s.pc s with
  | .ok s => .ok { s.setPc (s.vector n) with sleeping := false }
  | .error f => .error f

/-- THE RETURN FROM ONE: `pc <- PopPC(); I <- 1; IntInhibit <- true` (60_exceptions.md R318, 41_branch.md R172). -/
def returnFromInterrupt (s : State) : Except Fault State :=
  match popPC s with
  | .ok (a, s) => .ok ((s.setPc a).setSreg { s.sreg with i := true }).inhibitOne
  | .error f => .error f

/-! ### Reset and the environment -/

/-- The reset event (70_reset_and_hazards.md R351, R350): every value the spec gives for reset; the general registers
become free values; SRAM is kept, but for a power-on, after which it is unwritten again (log 20). The clock count goes on
from where it is, and the reset itself adds no clocks: DESIGN CHOICE, the spec says nothing of it (log 21). -/
def resetEvent (src : ResetSource) (s : State) : State :=
  { s with
    regs := Vector.ofFn fun i => Config.regAfterReset (.reset src :: s.dev) i
    pc := s.cfg.resetPc
    sreg := Sreg.clear
    sp := BitVec.ofNat 16 s.cfg.hw.ramEnd
    sram := if src = .powerOn then [] else s.sram
    powerUp := if src = .powerOn then s.powerUp + 1 else s.powerUp
    dev := .reset src :: s.dev
    pending := 0
    inhibit := false
    sleeping := false }

/-- What the environment does to devices and requests: devices change, requests of the configured sources are raised,
level-type requests are withdrawn (60_exceptions.md R340). -/
def actOnDevices (e : EnvAction) (s : State) : State :=
  { s with
    dev := match e.dev with
      | some n => .env n :: s.dev
      | none => s.dev
    pending := (s.pending ||| (e.raise &&& s.cfg.requests)) &&& ~~~(e.withdraw &&& s.cfg.levelSources) }

/-- One action of the environment: on the devices and requests, and then a reset if it is one and the configuration allows
it (60_exceptions.md R340, R325). -/
def applyAction (e : EnvAction) (s : State) : State :=
  match e.reset, s.cfg.spontaneousReset with
  | some src, true => resetEvent src (actOnDevices e s)
  | _, _ => actOnDevices e s

/-- `EnvStep` (60_exceptions.md R340): the next action of the environment; with none left it is quiet (log 6). -/
def envStep (s : State) : State :=
  match s.env with
  | [] => s
  | e :: rest => applyAction e { s with env := rest }

/-! ### Control flow and fetch -/

/-- How many words the instruction that begins with this word has (30_encoding.md R81). -/
def wordCount (w : Word) : ProgAddr := if isTwoWord w then 2 else 1

/-- `Skip(cond)`: steps over the following instruction, whatever its length, without executing it (41_branch.md R163). -/
def skip (cond : Bool) (s : State) : State :=
  if cond then s.advance (1 + wordCount (s.progWord (s.pc + 1))) else s.advance 1

/-- A conditional branch: `pc + 1 + k` when the condition holds, else `pc + 1` (41_branch.md R164, R181). -/
def branchIf (cond : Bool) (k : BitVec 7) (s : State) : State :=
  if cond then s.advance (1 + k.signExtend 14) else s.advance 1

/-- Fetch and decode at the pc: the first word there, the second word after it, modulo 2^14 (20_memory.md R58,
30_encoding.md R102, R109). An instruction that the part does not provide would be a reserved word (00_scope.md R5). -/
def fetch (s : State) : Except Fault Instr :=
  let w0 := s.progWord s.pc
  match decodeWords w0 (s.progWord (s.pc + 1)) with
  | some i => if s.cfg.hw.provides i then .ok i else .error (.illegalInstruction w0 s.pc)
  | none => .error (.illegalInstruction w0 s.pc)

end Sys2Proof.Machine
end

