-- ==== Sys2Proof/Machine/Operands.lean ====
section
/-!
DEFINITION. The operand forms the instructions share: pointers with displacement, post-increment and pre-decrement
(42_data_transfer.md R213, 20_memory.md R71), bit masks, products, and the endings most meanings have in common.
-/

namespace Sys2Proof.Machine

/-- The pointer registers (10_state.md R21). -/
inductive Pointer where
  | x
  | y
  | z
  deriving DecidableEq, Repr

namespace Pointer

/-- The low register of the pair: X = R27:R26, Y = R29:R28, Z = R31:R30 (10_state.md R21). -/
def low : Pointer → Reg
  | .x => 26
  | .y => 28
  | .z => 30

/-- Whether a register is one of the pointer's own two (42_data_transfer.md R213). -/
def owns (p : Pointer) (r : Reg) : Bool := r == p.low || r == p.low + 1

end Pointer

namespace State

/-- `Ptr(P)` (42_data_transfer.md R213). -/
def ptr (s : State) (p : Pointer) : Word := s.pair p.low

/-- `SetPtr(P, v)` (42_data_transfer.md R213). -/
def setPtr (s : State) (p : Pointer) (v : Word) : State := s.setPair p.low v

/-- `(Ptr(P) + zext_16(q))[15:0]` (42_data_transfer.md R223; 20_memory.md R71). -/
def displaced (s : State) (p : Pointer) (q : BitVec 6) : Word := s.ptr p + q.setWidth 16

end State

/-- `1 << b` as a byte. -/
def bitMask (b : BitPos) : Byte := 1#8 <<< b.val

/-! ### Loads -/

/-- `R[d] <- MemRead(a, 1)`, then the pc moves on by `n` words (42_data_transfer.md R210). -/
def load (d : Reg) (a : Word) (n : ProgAddr) (s : State) : Result :=
  match memRead a s with
  | .ok (v, s) => .next ((s.setReg d v).advance n)
  | .error f => .fault f

/-- A load with post-increment: the data register may not be part of the pointer; the increment is of the pointer value
read before the access (42_data_transfer.md R213, R218). -/
def loadPostInc (mnemonic : String) (p : Pointer) (d : Reg) (s : State) : Result :=
  if p.owns d then .fault (.undefinedOperand mnemonic d)
  else
    match memRead (s.ptr p) s with
    | .ok (v, t) => .next (((t.setReg d v).setPtr p (s.ptr p + 1)).advance 1)
    | .error f => .fault f

/-- A load with pre-decrement: the pointer is written before the access (42_data_transfer.md R213, R219). -/
def loadPreDec (mnemonic : String) (p : Pointer) (d : Reg) (s : State) : Result :=
  if p.owns d then .fault (.undefinedOperand mnemonic d)
  else load d (s.ptr p - 1) 1 (s.setPtr p (s.ptr p - 1))

/-! ### Stores -/

/-- `MemWrite(a, 1, v)`, then the pc moves on by `n` words (42_data_transfer.md R210). -/
def store (a : Word) (v : Byte) (n : ProgAddr) (s : State) : Result :=
  match memWrite a v s with
  | .ok s => .next (s.advance n)
  | .error f => .fault f

/-- A store with post-increment: the increment is of the pointer value read before the store, also where the store itself
changes the pointer (42_data_transfer.md R213, R230; D18). -/
def storePostInc (mnemonic : String) (p : Pointer) (r : Reg) (s : State) : Result :=
  if p.owns r then .fault (.undefinedOperand mnemonic r)
  else
    match memWrite (s.ptr p) (s.reg r) s with
    | .ok t => .next ((t.setPtr p (s.ptr p + 1)).advance 1)
    | .error f => .fault f

/-- A store with pre-decrement: the register is read, then the pointer written, then the byte stored
(42_data_transfer.md R213, R231). -/
def storePreDec (mnemonic : String) (p : Pointer) (r : Reg) (s : State) : Result :=
  if p.owns r then .fault (.undefinedOperand mnemonic r)
  else store (s.ptr p - 1) (s.reg r) 1 (s.setPtr p (s.ptr p - 1))

/-! ### Endings of the register instructions -/

/-- Writes a register and the flags and ends a one-word instruction (40_arithmetic_logic.md R120). -/
def endReg (d : Reg) (v : Byte) (r : Sreg) (s : State) : Result := .next (((s.setReg d v).setSreg r).advance 1)

/-- Writes a register pair and the flags and ends a one-word instruction (40_arithmetic_logic.md R128). -/
def endPair (d : Reg) (v : Word) (r : Sreg) (s : State) : Result := .next (((s.setPair d v).setSreg r).advance 1)

/-- Writes only the flags and ends a one-word instruction (41_branch.md R174). -/
def endFlags (r : Sreg) (s : State) : Result := .next ((s.setSreg r).advance 1)

/-- The 16-bit product of two integers: exact, then narrowed (40_arithmetic_logic.md R154). -/
def product (x y : Int) : Word := BitVec.ofInt 16 (x * y)

/-- A multiply: `R1:R0 <- p`, flags C and Z (40_arithmetic_logic.md R125, R148). -/
def endMul (p : Word) (s : State) : Result := endPair 0 p (mulFlags p p s.sreg) s

/-- A fractional multiply: `R1:R0 <- p << 1`, C the bit shifted out (40_arithmetic_logic.md R125, R151). -/
def endFmul (p : Word) (s : State) : Result := endPair 0 (p <<< 1) (mulFlags p (p <<< 1) s.sreg) s

end Sys2Proof.Machine
end

