-- ==== Sys2Proof/Machine/Arith.lean ====
section
/-!
DEFINITION. Arithmetic and logic instructions (40_arithmetic_logic.md R126 to R153), in the table's order. Every operand is
read before any result is written (R120).
-/

namespace Sys2Proof.Machine

/-- ADD (R126). -/
def execAdd (d r : Reg) (s : State) : Result :=
  endReg d (s.reg d + s.reg r) (addFlags (s.reg d) (s.reg r) false s.sreg) s

/-- ADC (R127). -/
def execAdc (d r : Reg) (s : State) : Result :=
  endReg d (s.reg d + s.reg r + bit8 s.sreg.c) (addFlags (s.reg d) (s.reg r) s.sreg.c s.sreg) s

/-- ADIW (R128). -/
def execAdiw (d : Reg) (k : BitVec 6) (s : State) : Result :=
  let res := s.pair d + k.setWidth 16
  endPair d res (adiwFlags (s.pair d) res s.sreg) s

/-- SUB (R129). -/
def execSub (d r : Reg) (s : State) : Result :=
  endReg d (s.reg d - s.reg r) (subFlags (s.reg d) (s.reg r) false false s.sreg) s

/-- SUBI (R130). -/
def execSubi (d : Reg) (k : Byte) (s : State) : Result :=
  endReg d (s.reg d - k) (subFlags (s.reg d) k false false s.sreg) s

/-- SBC (R131). -/
def execSbc (d r : Reg) (s : State) : Result :=
  endReg d (s.reg d - s.reg r - bit8 s.sreg.c) (subFlags (s.reg d) (s.reg r) s.sreg.c true s.sreg) s

/-- SBCI (R132). -/
def execSbci (d : Reg) (k : Byte) (s : State) : Result :=
  endReg d (s.reg d - k - bit8 s.sreg.c) (subFlags (s.reg d) k s.sreg.c true s.sreg) s

/-- SBIW (R133). -/
def execSbiw (d : Reg) (k : BitVec 6) (s : State) : Result :=
  let res := s.pair d - k.setWidth 16
  endPair d res (sbiwFlags (s.pair d) res s.sreg) s

/-- AND (R134). -/
def execAnd (d r : Reg) (s : State) : Result :=
  let res := s.reg d &&& s.reg r
  endReg d res (logicFlags res s.sreg) s

/-- ANDI (R135). -/
def execAndi (d : Reg) (k : Byte) (s : State) : Result :=
  let res := s.reg d &&& k
  endReg d res (logicFlags res s.sreg) s

/-- OR (R136). -/
def execOr (d r : Reg) (s : State) : Result :=
  let res := s.reg d ||| s.reg r
  endReg d res (logicFlags res s.sreg) s

/-- ORI (R137). -/
def execOri (d : Reg) (k : Byte) (s : State) : Result :=
  let res := s.reg d ||| k
  endReg d res (logicFlags res s.sreg) s

/-- EOR (R138). -/
def execEor (d r : Reg) (s : State) : Result :=
  let res := s.reg d ^^^ s.reg r
  endReg d res (logicFlags res s.sreg) s

/-- COM (R139). -/
def execCom (d : Reg) (s : State) : Result :=
  let res := 0xFF#8 - s.reg d
  endReg d res (comFlags res s.sreg) s

/-- NEG (R140). -/
def execNeg (d : Reg) (s : State) : Result :=
  endReg d (0x00#8 - s.reg d) (subFlags 0x00 (s.reg d) false false s.sreg) s

/-- SBR (R141). -/
def execSbr (d : Reg) (k : Byte) (s : State) : Result :=
  let res := s.reg d ||| k
  endReg d res (logicFlags res s.sreg) s

/-- CBR (R142): `k` is the mask of the bits to clear. -/
def execCbr (d : Reg) (k : Byte) (s : State) : Result :=
  let res := s.reg d &&& (0xFF#8 - k)
  endReg d res (logicFlags res s.sreg) s

/-- INC (R143). -/
def execInc (d : Reg) (s : State) : Result :=
  let res := s.reg d + 1
  endReg d res (incFlags res s.sreg) s

/-- DEC (R144). -/
def execDec (d : Reg) (s : State) : Result :=
  let res := s.reg d - 1
  endReg d res (decFlags res s.sreg) s

/-- TST (R145): the register is rewritten with its own value. -/
def execTst (d : Reg) (s : State) : Result := endReg d (s.reg d) (logicFlags (s.reg d) s.sreg) s

/-- CLR (R146). -/
def execClr (d : Reg) (s : State) : Result :=
  endReg d 0x00 { s.sreg with s := false, v := false, n := false, z := true } s

/-- SER (R147). -/
def execSer (d : Reg) (s : State) : Result := endReg d 0xFF s.sreg s

/-- MUL (R148). -/
def execMul (d r : Reg) (s : State) : Result := endMul (product (s.reg d).toNat (s.reg r).toNat) s

/-- MULS (R149). -/
def execMuls (d r : Reg) (s : State) : Result := endMul (product (s.reg d).toInt (s.reg r).toInt) s

/-- MULSU (R150): Rd signed, Rr unsigned. -/
def execMulsu (d r : Reg) (s : State) : Result := endMul (product (s.reg d).toInt (s.reg r).toNat) s

/-- FMUL (R151). -/
def execFmul (d r : Reg) (s : State) : Result := endFmul (product (s.reg d).toNat (s.reg r).toNat) s

/-- FMULS (R152). -/
def execFmuls (d r : Reg) (s : State) : Result := endFmul (product (s.reg d).toInt (s.reg r).toInt) s

/-- FMULSU (R153): Rd signed, Rr unsigned. -/
def execFmulsu (d r : Reg) (s : State) : Result := endFmul (product (s.reg d).toInt (s.reg r).toNat) s

end Sys2Proof.Machine
end

