-- ==== Sys2Proof/Machine/Bits.lean ====
section
/-!
DEFINITION. Bit and bit-test instructions (43_bit_and_bit_test.md R262 to R289), in the table's order. All are one word.
-/

namespace Sys2Proof.Machine

/-- Reads an I/O byte, changes it, writes it back: one instruction, two device accesses (R262, R263, D36). -/
def modifyIO (a : BitVec 5) (f : Byte → Byte) (s : State) : Result :=
  match memRead (ioAddr5 s.cfg a) s with
  | .ok (v, s) => store (ioAddr5 s.cfg a) (f v) 1 s
  | .error e => .fault e

/-- SBI (R262). -/
def execSbi (a : BitVec 5) (b : BitPos) (s : State) : Result := modifyIO a (fun v => v ||| bitMask b) s

/-- CBI (R263). -/
def execCbi (a : BitVec 5) (b : BitPos) (s : State) : Result := modifyIO a (fun v => v &&& ~~~bitMask b) s

/-- LSL (R264). -/
def execLsl (d : Reg) (s : State) : Result :=
  endReg d (s.reg d <<< 1) (addFlags (s.reg d) (s.reg d) false s.sreg) s

/-- LSR (R265): `0 : a[7:1]`. -/
def execLsr (d : Reg) (s : State) : Result :=
  let res : Byte := 0#1 ++ (s.reg d).extractLsb' 1 7
  endReg d res (shiftRightFlags (s.reg d) res s.sreg) s

/-- ROL (R266): `a[6:0] : C`. -/
def execRol (d : Reg) (s : State) : Result :=
  let res : Byte := (s.reg d).extractLsb' 0 7 ++ BitVec.ofBool s.sreg.c
  endReg d res (addFlags (s.reg d) (s.reg d) s.sreg.c s.sreg) s

/-- ROR (R267): `C : a[7:1]`. -/
def execRor (d : Reg) (s : State) : Result :=
  let res : Byte := BitVec.ofBool s.sreg.c ++ (s.reg d).extractLsb' 1 7
  endReg d res (shiftRightFlags (s.reg d) res s.sreg) s

/-- ASR (R268): `a[7] : a[7:1]`. -/
def execAsr (d : Reg) (s : State) : Result :=
  let res : Byte := (s.reg d).extractLsb' 7 1 ++ (s.reg d).extractLsb' 1 7
  endReg d res (shiftRightFlags (s.reg d) res s.sreg) s

/-- SWAP (R269): `a[3:0] : a[7:4]`. -/
def execSwap (d : Reg) (s : State) : Result :=
  let res : Byte := (s.reg d).extractLsb' 0 4 ++ (s.reg d).extractLsb' 4 4
  endReg d res s.sreg s

/-- BST (R270). -/
def execBst (r : Reg) (b : BitPos) (s : State) : Result := endFlags { s.sreg with t := (s.reg r).getLsbD b } s

/-- BLD (R271). -/
def execBld (d : Reg) (b : BitPos) (s : State) : Result :=
  endReg d ((s.reg d &&& ~~~bitMask b) ||| (bit8 s.sreg.t <<< b.val)) s.sreg s

/-- BSET (R272): setting I from 0 delays interrupts by one instruction. -/
def execBset (f : BitPos) (s : State) : Result := .next ((s.writeFlag f true).advance 1)

/-- BCLR (R273). -/
def execBclr (f : BitPos) (s : State) : Result := .next ((s.writeFlag f false).advance 1)

/-- SEC (R274): `C <- 1`. -/
def execSec (s : State) : Result := endFlags { s.sreg with c := true } s

/-- CLC (R275): `C <- 0`. -/
def execClc (s : State) : Result := endFlags { s.sreg with c := false } s

/-- SEN (R276): `N <- 1`: no other flag is recomputed. -/
def execSen (s : State) : Result := endFlags { s.sreg with n := true } s

/-- CLN (R277): `N <- 0`: no other flag is recomputed. -/
def execCln (s : State) : Result := endFlags { s.sreg with n := false } s

/-- SEZ (R278): `Z <- 1`. -/
def execSez (s : State) : Result := endFlags { s.sreg with z := true } s

/-- CLZ (R279): `Z <- 0`. -/
def execClz (s : State) : Result := endFlags { s.sreg with z := false } s

/-- SEI (R280): `I <- 1`: the next instruction runs before any interrupt. -/
def execSei (s : State) : Result := .next ((s.writeSreg { s.sreg with i := true }).advance 1)

/-- CLI (R281): `I <- 0`: at once. -/
def execCli (s : State) : Result := endFlags { s.sreg with i := false } s

/-- SES (R282): `S <- 1`: no other flag is recomputed. -/
def execSes (s : State) : Result := endFlags { s.sreg with s := true } s

/-- CLS (R283): `S <- 0`: no other flag is recomputed. -/
def execCls (s : State) : Result := endFlags { s.sreg with s := false } s

/-- SEV (R284): `V <- 1`: no other flag is recomputed. -/
def execSev (s : State) : Result := endFlags { s.sreg with v := true } s

/-- CLV (R285): `V <- 0`: no other flag is recomputed. -/
def execClv (s : State) : Result := endFlags { s.sreg with v := false } s

/-- SET (R286): `T <- 1`. -/
def execSetT (s : State) : Result := endFlags { s.sreg with t := true } s

/-- CLT (R287): `T <- 0`. -/
def execClt (s : State) : Result := endFlags { s.sreg with t := false } s

/-- SEH (R288): `H <- 1`. -/
def execSeh (s : State) : Result := endFlags { s.sreg with h := true } s

/-- CLH (R289): `H <- 0`. -/
def execClh (s : State) : Result := endFlags { s.sreg with h := false } s

end Sys2Proof.Machine
end

