-- ==== Sys2Proof/Machine/Branch.lean ====
section
/-!
DEFINITION. Branch, call, return, compare and skip instructions (41_branch.md R165 to R200), in the table's order. `pc` is
the address of the instruction's first word (10_state.md R23); every pc is modulo 2^14 (R25).
-/

namespace Sys2Proof.Machine

/-- RJMP (R165). -/
def execRjmp (k : BitVec 12) (s : State) : Result := .next (s.advance (1 + k.signExtend 14))

/-- IJMP (R166): the upper two bits of Z are dropped (10_state.md R25). -/
def execIjmp (s : State) : Result := .next (s.setPc ((s.ptr .z).setWidth 14))

/-- JMP (R167): bits 21..14 of `k` are dropped (30_encoding.md R108). -/
def execJmp (k : BitVec 22) (s : State) : Result := .next (s.setPc (k.setWidth 14))

/-- A call: the return address is pushed, then the pc goes to the target (41_branch.md R168 to R170). -/
def callTo (target ret : ProgAddr) (s : State) : Result :=
  match pushPC ret s with
  | .ok s => .next (s.setPc target)
  | .error f => .fault f

/-- RCALL (R168). -/
def execRcall (k : BitVec 12) (s : State) : Result := callTo (s.pc + 1 + k.signExtend 14) (s.pc + 1) s

/-- ICALL (R169): Z is read before the push. -/
def execIcall (s : State) : Result := callTo ((s.ptr .z).setWidth 14) (s.pc + 1) s

/-- CALL (R170): the return address is the word after the second word. -/
def execCall (k : BitVec 22) (s : State) : Result := callTo (k.setWidth 14) (s.pc + 2) s

/-- RET (R171). -/
def execRet (s : State) : Result :=
  match popPC s with
  | .ok (a, s) => .next (s.setPc a)
  | .error f => .fault f

/-- RETI (R172). -/
def execReti (s : State) : Result := finish (returnFromInterrupt s)

/-- CPSE (R173). -/
def execCpse (d r : Reg) (s : State) : Result := .next (skip (s.reg d == s.reg r) s)

/-- CP (R174). -/
def execCp (d r : Reg) (s : State) : Result := endFlags (subFlags (s.reg d) (s.reg r) false false s.sreg) s

/-- CPC (R175). -/
def execCpc (d r : Reg) (s : State) : Result := endFlags (subFlags (s.reg d) (s.reg r) s.sreg.c true s.sreg) s

/-- CPI (R176). -/
def execCpi (d : Reg) (k : Byte) (s : State) : Result := endFlags (subFlags (s.reg d) k false false s.sreg) s

/-- SBRC (R177). -/
def execSbrc (r : Reg) (b : BitPos) (s : State) : Result := .next (skip (!(s.reg r).getLsbD b) s)

/-- SBRS (R178). -/
def execSbrs (r : Reg) (b : BitPos) (s : State) : Result := .next (skip ((s.reg r).getLsbD b) s)

/-- Skips on an I/O bit with the given value (41_branch.md R179, R180). -/
def skipOnIO (a : BitVec 5) (b : BitPos) (x : Bool) (s : State) : Result :=
  match memRead (ioAddr5 s.cfg a) s with
  | .ok (v, s) => .next (skip (v.getLsbD b == x) s)
  | .error f => .fault f

/-- SBIC (R179). -/
def execSbic (a : BitVec 5) (b : BitPos) (s : State) : Result := skipOnIO a b false s

/-- SBIS (R180). -/
def execSbis (a : BitVec 5) (b : BitPos) (s : State) : Result := skipOnIO a b true s

/-- BRBS (R181; the offset counts from the following word, C1). -/
def execBrbs (f : BitPos) (k : BitVec 7) (s : State) : Result := .next (branchIf (s.sreg.get f) k s)

/-- BRBC (R182; the offset counts from the following word, C1). -/
def execBrbc (f : BitPos) (k : BitVec 7) (s : State) : Result := .next (branchIf (!s.sreg.get f) k s)

/-- BREQ (R183): taken if Z = 1. -/
def execBreq (k : BitVec 7) (s : State) : Result := .next (branchIf s.sreg.z k s)

/-- BRNE (R184): taken if Z = 0. -/
def execBrne (k : BitVec 7) (s : State) : Result := .next (branchIf (!s.sreg.z) k s)

/-- BRCS (R185): taken if C = 1. -/
def execBrcs (k : BitVec 7) (s : State) : Result := .next (branchIf s.sreg.c k s)

/-- BRCC (R186): taken if C = 0. -/
def execBrcc (k : BitVec 7) (s : State) : Result := .next (branchIf (!s.sreg.c) k s)

/-- BRSH (R187): taken if C = 0. -/
def execBrsh (k : BitVec 7) (s : State) : Result := .next (branchIf (!s.sreg.c) k s)

/-- BRLO (R188): taken if C = 1. -/
def execBrlo (k : BitVec 7) (s : State) : Result := .next (branchIf s.sreg.c k s)

/-- BRMI (R189): taken if N = 1. -/
def execBrmi (k : BitVec 7) (s : State) : Result := .next (branchIf s.sreg.n k s)

/-- BRPL (R190): taken if N = 0. -/
def execBrpl (k : BitVec 7) (s : State) : Result := .next (branchIf (!s.sreg.n) k s)

/-- BRGE (R191): taken if S = 0, which decides where S and `N ^ V` differ. -/
def execBrge (k : BitVec 7) (s : State) : Result := .next (branchIf (!s.sreg.s) k s)

/-- BRLT (R192): taken if S = 1, which decides where S and `N ^ V` differ. -/
def execBrlt (k : BitVec 7) (s : State) : Result := .next (branchIf s.sreg.s k s)

/-- BRHS (R193): taken if H = 1. -/
def execBrhs (k : BitVec 7) (s : State) : Result := .next (branchIf s.sreg.h k s)

/-- BRHC (R194): taken if H = 0. -/
def execBrhc (k : BitVec 7) (s : State) : Result := .next (branchIf (!s.sreg.h) k s)

/-- BRTS (R195): taken if T = 1. -/
def execBrts (k : BitVec 7) (s : State) : Result := .next (branchIf s.sreg.t k s)

/-- BRTC (R196): taken if T = 0. -/
def execBrtc (k : BitVec 7) (s : State) : Result := .next (branchIf (!s.sreg.t) k s)

/-- BRVS (R197): taken if V = 1. -/
def execBrvs (k : BitVec 7) (s : State) : Result := .next (branchIf s.sreg.v k s)

/-- BRVC (R198): taken if V = 0. -/
def execBrvc (k : BitVec 7) (s : State) : Result := .next (branchIf (!s.sreg.v) k s)

/-- BRIE (R199): taken if I = 1. -/
def execBrie (k : BitVec 7) (s : State) : Result := .next (branchIf s.sreg.i k s)

/-- BRID (R200): taken if I = 0. -/
def execBrid (k : BitVec 7) (s : State) : Result := .next (branchIf (!s.sreg.i) k s)

end Sys2Proof.Machine
end

