-- ==== Sys2Proof/Machine/Mcu.lean ====
section
/-!
DEFINITION. MCU control instructions (44_mcu_control.md R300 to R303).
-/

namespace Sys2Proof.Machine

/-- NOP (R300). -/
def execNop (s : State) : Result := .next (s.advance 1)

/-- SLEEP (R301): the pc moves on first, so that a wake-up returns to the next instruction. -/
def execSleep (s : State) : Result := .next { s.advance 1 with sleeping := s.sleeping || s.sleepEnabled }

/-- WDR (R302): a device event, nothing else. -/
def execWdr (s : State) : Result := .next (s.deviceWdr.advance 1)

/-- BREAK (R303): a NOP, unless on-chip debug is enabled. -/
def execBrk (s : State) : Result := if s.cfg.ocdEnabled then .fault .unsupportedBreak else .next (s.advance 1)

end Sys2Proof.Machine
end

