-- ==== Sys2Proof/Machine/Transfer.lean ====
section
/-!
DEFINITION. Data transfer instructions (42_data_transfer.md R214 to R248), in the table's order. None writes a flag as a
result; a store whose address is SREG's does, through memory (R210).
-/

namespace Sys2Proof.Machine

/-- MOV (R214). -/
def execMov (d r : Reg) (s : State) : Result := endReg d (s.reg r) s.sreg s

/-- MOVW (R215): both registers are read before either is written. -/
def execMovw (d r : Reg) (s : State) : Result := endPair d (s.pair r) s.sreg s

/-- LDI (R216). -/
def execLdi (d : Reg) (k : Byte) (s : State) : Result := endReg d k s.sreg s

/-- LD Rd, X (R217). -/
def execLdX (d : Reg) (s : State) : Result := load d (s.ptr .x) 1 s

/-- LD Rd, X+ (R218). -/
def execLdXInc (d : Reg) (s : State) : Result := loadPostInc "LD X+" .x d s

/-- LD Rd, -X (R219). -/
def execLdXDec (d : Reg) (s : State) : Result := loadPreDec "LD -X" .x d s

/-- LD Rd, Y (R220). -/
def execLdY (d : Reg) (s : State) : Result := load d (s.ptr .y) 1 s

/-- LD Rd, Y+ (R221). -/
def execLdYInc (d : Reg) (s : State) : Result := loadPostInc "LD Y+" .y d s

/-- LD Rd, -Y (R222). -/
def execLdYDec (d : Reg) (s : State) : Result := loadPreDec "LD -Y" .y d s

/-- LDD Rd, Y+q (R223). -/
def execLddY (d : Reg) (q : BitVec 6) (s : State) : Result := load d (s.displaced .y q) 1 s

/-- LD Rd, Z (R224). -/
def execLdZ (d : Reg) (s : State) : Result := load d (s.ptr .z) 1 s

/-- LD Rd, Z+ (R225). -/
def execLdZInc (d : Reg) (s : State) : Result := loadPostInc "LD Z+" .z d s

/-- LD Rd, -Z (R226). -/
def execLdZDec (d : Reg) (s : State) : Result := loadPreDec "LD -Z" .z d s

/-- LDD Rd, Z+q (R227). -/
def execLddZ (d : Reg) (q : BitVec 6) (s : State) : Result := load d (s.displaced .z q) 1 s

/-- LDS (R228). -/
def execLds (d : Reg) (k : Word) (s : State) : Result := load d k 2 s

/-- ST X, Rr (R229). -/
def execStX (r : Reg) (s : State) : Result := store (s.ptr .x) (s.reg r) 1 s

/-- ST X+, Rr (R230). -/
def execStXInc (r : Reg) (s : State) : Result := storePostInc "ST X+" .x r s

/-- ST -X, Rr (R231). -/
def execStXDec (r : Reg) (s : State) : Result := storePreDec "ST -X" .x r s

/-- ST Y, Rr (R232). -/
def execStY (r : Reg) (s : State) : Result := store (s.ptr .y) (s.reg r) 1 s

/-- ST Y+, Rr (R233). -/
def execStYInc (r : Reg) (s : State) : Result := storePostInc "ST Y+" .y r s

/-- ST -Y, Rr (R234). -/
def execStYDec (r : Reg) (s : State) : Result := storePreDec "ST -Y" .y r s

/-- STD Y+q, Rr (R235). -/
def execStdY (q : BitVec 6) (r : Reg) (s : State) : Result := store (s.displaced .y q) (s.reg r) 1 s

/-- ST Z, Rr (R236). -/
def execStZ (r : Reg) (s : State) : Result := store (s.ptr .z) (s.reg r) 1 s

/-- ST Z+, Rr (R237). -/
def execStZInc (r : Reg) (s : State) : Result := storePostInc "ST Z+" .z r s

/-- ST -Z, Rr (R238). -/
def execStZDec (r : Reg) (s : State) : Result := storePreDec "ST -Z" .z r s

/-- STD Z+q, Rr (R239). -/
def execStdZ (q : BitVec 6) (r : Reg) (s : State) : Result := store (s.displaced .z q) (s.reg r) 1 s

/-- STS (R240): the stored register is Rr (C2). -/
def execSts (k : Word) (r : Reg) (s : State) : Result := store k (s.reg r) 2 s

/-- `R[d] <- ProgByte(Ptr(Z))` (R241, R242). -/
def loadProgram (d : Reg) (s : State) : Result :=
  match progRead (s.ptr .z) s with
  | .ok v => endReg d v s.sreg s
  | .error f => .fault f

/-- LPM (R241): the destination is R0. -/
def execLpm (s : State) : Result := loadProgram 0 s

/-- LPM Rd, Z (R242). -/
def execLpmZ (d : Reg) (s : State) : Result := loadProgram d s

/-- LPM Rd, Z+ (R243). -/
def execLpmZInc (d : Reg) (s : State) : Result :=
  if Pointer.z.owns d then .fault (.undefinedOperand "LPM Rd,Z+" d)
  else
    match progRead (s.ptr .z) s with
    | .ok v => .next (((s.setReg d v).setPtr .z (s.ptr .z + 1)).advance 1)
    | .error f => .fault f

/-- SPM (R244): `raise Unsupported(SPM)`; what it does depends on device registers no source describes (D19). -/
def execSpm (_ : State) : Result := .fault .unsupportedSpm

/-- IN (R245). -/
def execInp (d : Reg) (a : BitVec 6) (s : State) : Result := load d (ioAddr s.cfg a) 1 s

/-- OUT (R246). -/
def execOut (a : BitVec 6) (r : Reg) (s : State) : Result := store (ioAddr s.cfg a) (s.reg r) 1 s

/-- PUSH (R247). -/
def execPush (r : Reg) (s : State) : Result :=
  match push8 (s.reg r) s with
  | .ok s => .next (s.advance 1)
  | .error f => .fault f

/-- POP (R248). -/
def execPop (d : Reg) (s : State) : Result :=
  match pop8 s with
  | .ok (v, s) => .next ((s.setReg d v).advance 1)
  | .error f => .fault f

end Sys2Proof.Machine
end

