-- ==== Sys2Proof/Machine/Timing.lean ====
section
/-!
DEFINITION. Clock counts (70_reset_and_hazards.md R360, R361, R363; 60_exceptions.md R316, R331; D31; log 21). They feed
the counter `State.cycles`, which no rule reads.
-/

namespace Sys2Proof.Machine

/-- 1/2: one clock when the branch is not taken, two when it is (R361). -/
def branchClocks (taken : Bool) : Nat := if taken then 2 else 1

/-- 1/2/3: one clock when nothing is skipped, else one more for each word of the skipped instruction (R361). -/
def skipClocks (cond : Bool) (s : State) : Nat :=
  if cond then 1 + (wordCount (s.progWord (s.pc + 1))).toNat else 1

/-- Whether the I/O bit that SBIC and SBIS test has the value `x` (41_branch.md R179, R180). -/
def ioBitIs (a : BitVec 5) (b : BitPos) (x : Bool) (s : State) : Bool :=
  match memRead (ioAddr5 s.cfg a) s with
  | .ok (v, _) => v.getLsbD b == x
  | .error _ => false

/-- The clocks of an instruction executed in the state `s` (R360). SPM never completes, so its 0 is never counted; BREAK
counts as the NOP it is when it completes (R362). SBI and CBI keep the source's 1 (R362, C14). -/
def clocks (i : Instr) (s : State) : Nat :=
  match i with
  | .add _ _ => 1
  | .adc _ _ => 1
  | .adiw _ _ => 2
  | .sub _ _ => 1
  | .subi _ _ => 1
  | .sbc _ _ => 1
  | .sbci _ _ => 1
  | .sbiw _ _ => 2
  | .and _ _ => 1
  | .andi _ _ => 1
  | .or _ _ => 1
  | .ori _ _ => 1
  | .eor _ _ => 1
  | .com _ => 1
  | .neg _ => 1
  | .sbr _ _ => 1
  | .cbr _ _ => 1
  | .inc _ => 1
  | .dec _ => 1
  | .tst _ => 1
  | .clr _ => 1
  | .ser _ => 1
  | .mul _ _ => 2
  | .muls _ _ => 2
  | .mulsu _ _ => 2
  | .fmul _ _ => 2
  | .fmuls _ _ => 2
  | .fmulsu _ _ => 2
  | .rjmp _ => 2
  | .ijmp => 2
  | .jmp _ => 3
  | .rcall _ => 3
  | .icall => 3
  | .call _ => 4
  | .ret => 4
  | .reti => 4
  | .cpse d r => skipClocks (s.reg d == s.reg r) s
  | .cp _ _ => 1
  | .cpc _ _ => 1
  | .cpi _ _ => 1
  | .sbrc r b => skipClocks (!(s.reg r).getLsbD b) s
  | .sbrs r b => skipClocks ((s.reg r).getLsbD b) s
  | .sbic a b => skipClocks (ioBitIs a b false s) s
  | .sbis a b => skipClocks (ioBitIs a b true s) s
  | .brbs f _ => branchClocks (s.sreg.get f)
  | .brbc f _ => branchClocks (!s.sreg.get f)
  | .breq _ => branchClocks s.sreg.z
  | .brne _ => branchClocks (!s.sreg.z)
  | .brcs _ => branchClocks s.sreg.c
  | .brcc _ => branchClocks (!s.sreg.c)
  | .brsh _ => branchClocks (!s.sreg.c)
  | .brlo _ => branchClocks s.sreg.c
  | .brmi _ => branchClocks s.sreg.n
  | .brpl _ => branchClocks (!s.sreg.n)
  | .brge _ => branchClocks (!s.sreg.s)
  | .brlt _ => branchClocks s.sreg.s
  | .brhs _ => branchClocks s.sreg.h
  | .brhc _ => branchClocks (!s.sreg.h)
  | .brts _ => branchClocks s.sreg.t
  | .brtc _ => branchClocks (!s.sreg.t)
  | .brvs _ => branchClocks s.sreg.v
  | .brvc _ => branchClocks (!s.sreg.v)
  | .brie _ => branchClocks s.sreg.i
  | .brid _ => branchClocks (!s.sreg.i)
  | .mov _ _ => 1
  | .movw _ _ => 1
  | .ldi _ _ => 1
  | .ldX _ => 2
  | .ldXInc _ => 2
  | .ldXDec _ => 2
  | .ldY _ => 2
  | .ldYInc _ => 2
  | .ldYDec _ => 2
  | .lddY _ _ => 2
  | .ldZ _ => 2
  | .ldZInc _ => 2
  | .ldZDec _ => 2
  | .lddZ _ _ => 2
  | .lds _ _ => 2
  | .stX _ => 2
  | .stXInc _ => 2
  | .stXDec _ => 2
  | .stY _ => 2
  | .stYInc _ => 2
  | .stYDec _ => 2
  | .stdY _ _ => 2
  | .stZ _ => 2
  | .stZInc _ => 2
  | .stZDec _ => 2
  | .stdZ _ _ => 2
  | .sts _ _ => 2
  | .lpm => 3
  | .lpmZ _ => 3
  | .lpmZInc _ => 3
  | .spm => 0
  | .inp _ _ => 1
  | .out _ _ => 1
  | .push _ => 2
  | .pop _ => 2
  | .sbi _ _ => 1
  | .cbi _ _ => 1
  | .lsl _ => 1
  | .lsr _ => 1
  | .rol _ => 1
  | .ror _ => 1
  | .asr _ => 1
  | .swap _ => 1
  | .bst _ _ => 1
  | .bld _ _ => 1
  | .bset _ => 1
  | .bclr _ => 1
  | .sec => 1
  | .clc => 1
  | .sen => 1
  | .cln => 1
  | .sez => 1
  | .clz => 1
  | .sei => 1
  | .cli => 1
  | .ses => 1
  | .cls => 1
  | .sev => 1
  | .clv => 1
  | .setT => 1
  | .clt => 1
  | .seh => 1
  | .clh => 1
  | .nop => 1
  | .sleep => 1
  | .wdr => 1
  | .brk => 1

/-- The clocks of interrupt entry: four, and a free number more when it wakes the CPU (60_exceptions.md R316, R331). -/
def entryClocks (s : State) : Nat := 4 + if s.sleeping then Config.wakeClocks s.dev else 0

namespace State

/-- `cycles <- cycles + n` (R363). -/
def tick (s : State) (n : Nat) : State := { s with cycles := s.cycles + n }

end State

end Sys2Proof.Machine
end

