-- ==== Sys2Proof/Machine/Run.lean ====
section
/-!
DEFINITION. What one step is made of (60_exceptions.md R340): executing the instruction at the pc, entering an interrupt,
the choice between them, and placing an instruction where the next step fetches it.
-/

namespace Sys2Proof.Machine

/-- Fetches, decodes and executes the instruction at the pc, and counts its clocks (60_exceptions.md R340,
70_reset_and_hazards.md R363). -/
def runInstr (s : State) : Result :=
  match fetch s with
  | .error f => .fault f
  | .ok i =>
    match exec i s with
    | .next t => .next (t.tick (clocks i s))
    | .fault f => .fault f
    | .refused r => .refused r

/-- Takes the interrupt of vector `n` and counts its clocks (60_exceptions.md R316, R331). -/
def enterInterrupt (n : Nat) (s : State) : Result :=
  match takeInterrupt n s with
  | .ok t => .next (t.tick (entryClocks s))
  | .error f => .fault f

/-- The CPU's part of a step (60_exceptions.md R340): `IntInhibit` is read and cleared, then an interrupt is entered, or
the CPU sleeps on (log 29), which adds no clocks (log 21), or one instruction runs. -/
def cpuStep (s : State) : Result :=
  let t := { s with inhibit := false }
  match t.interruptDue s.inhibit with
  | some n => enterInterrupt n t
  | none => if t.sleeping then .next t else runInstr t

/-- The state with the two words at and after the pc replaced, awake, and with no interrupt or environment action ahead of
the instruction (log 3, 27). -/
def placeInstr (s : State) (w0 w1 : Word) : State :=
  { (s.loadWord s.pc w0).loadWord (s.pc + 1) w1 with
    sleeping := false
    inhibit := s.inhibit || (s.interruptDue false).isSome
    env := match s.env with
      | [] => []
      | _ :: rest => {} :: rest }

end Sys2Proof.Machine
end

