-- ==== Sys2Proof/Machine/Step.lean ====
section
/-!
DEFINITION. The step of the whole machine (60_exceptions.md R340), and where the host places an instruction for it.
-/

namespace Sys2Proof.Machine

/-- `Step(state)`: the environment acts, then the CPU (60_exceptions.md R340). -/
def step (s : State) : Host.Outcome State Fault Refusal := cpuStep (envStep s)

/-- The state with the instruction whose bits are `w`, numbered as the opcode table numbers them, where the next step
fetches its instruction (log 3, 27). -/
def State.withFetchWord (s : State) (nbits w : Nat) : State :=
  placeInstr s (tableWords nbits w).1 (tableWords nbits w).2

end Sys2Proof.Machine
end

