-- ==== Sys2Proof/Safety.lean ====
section
/-!
DEFINITION. What counts as a safe run, and the vocabulary of the claims: the invariant, the states a run ends or sticks
in, what software must do before it enables interrupts, what a data-space access does as a relation, the flag rules in
arithmetic terms, and the frame of every instruction. Nothing here is used by the machine.
-/

namespace Sys2Proof.Machine

namespace State

/-- The invariant of the machine: both memories are in canonical form (10_state.md R33, R34), SP holds no bit above
`SP_BITS` (R29), and only configured sources are pending (60_exceptions.md R313). -/
abbrev Inv (s : State) : Prop :=
  Memory.wfSram s.cfg.hw s.sram ∧ Memory.wfFlash s.cfg.hw s.flash ∧ s.sp.toNat < s.cfg.spBits.size ∧
    s.pending &&& ~~~s.cfg.requests = 0

/-- No interrupt can be taken whatever the environment does: interrupts are disabled or no source is configured
(60_exceptions.md R313, R314). -/
abbrev interruptFree (s : State) : Prop := s.sreg.i = false ∨ s.cfg.requests = 0

/-- The CPU is at `RJMP -1`, awake, and nothing can divert it (92_eei_decisions.md D30; log 25). -/
abbrev selfJumping (s : State) : Prop :=
  s.progWord s.pc = 0xCFFF ∧ s.sleeping = false ∧ s.interruptFree ∧ s.cfg.spontaneousReset = false

/-- The run has ended: `HaltCondition` holds (00_scope.md R5, 60_exceptions.md R340, D30; log 25). -/
abbrev halted (s : State) : Prop :=
  (s.cfg.haltCondition = .selfJump ∧ s.selfJumping) ∨ (s.cfg.haltCondition = .reaches s.pc ∧ s.sleeping = false)

/-- A run of at most `k` steps from `s`, which ends where `HaltCondition` holds (60_exceptions.md R340). -/
def runToHalt : Nat → State → Result
  | 0, s => .next s
  | k + 1, s =>
    if s.halted then .next s
    else
      match step s with
      | .next t => runToHalt k t
      | r => r

/-- SP points into SRAM with room for `n` bytes at and below it (70_reset_and_hazards.md R353 item 1). -/
abbrev stackRoom (n : Nat) (s : State) : Prop := 0xFF + n ≤ s.stackPtr.toNat ∧ s.stackPtr.toNat ≤ 0x8FF

/-- What software must have done before it enables interrupts: the stack has room for a return address, and the vector
of every source that can become pending holds code (70_reset_and_hazards.md R353 items 1, 5 and 6). -/
def readyForInterrupts (s : State) : Prop :=
  s.stackRoom s.cfg.hw.retAddrBytes ∧ ∀ n, s.cfg.requests.getLsbD n = true →
    (decodeWords (s.progWord (s.vector n)) (s.progWord (s.vector n + 1))).isSome = true

/-- Asleep, with nothing that can wake it: stuck, and not a final state (44_mcu_control.md R301, D20, D30; log 25). -/
abbrev stuckAsleep (s : State) : Prop :=
  s.sleeping = true ∧ s.interruptFree ∧ s.cfg.spontaneousReset = false

/-- The CPU's own state is the same; devices, requests, the environment's schedule and the clock count may differ. -/
structure SameCpu (s t : State) : Prop where
  regs : t.regs = s.regs
  pc : t.pc = s.pc
  sreg : t.sreg = s.sreg
  sp : t.sp = s.sp
  sram : t.sram = s.sram
  flash : t.flash = s.flash
  sleeping : t.sleeping = s.sleeping
  cfg : t.cfg = s.cfg
  powerUp : t.powerUp = s.powerUp

/-- The four bytes an instruction fetch at the pc can see, each word's low byte first (20_memory.md R58, R60). -/
def fetchedBytes (s : State) : List Byte :=
  [s.progByte (s.pc ++ 0#1), s.progByte (s.pc ++ 1#1),
    s.progByte ((s.pc + 1) ++ 0#1), s.progByte ((s.pc + 1) ++ 1#1)]

/-! ### Frames -/

/-- Everything but registers, pc, SREG, SP and memory is the same. -/
structure SameHidden (s t : State) : Prop where
  dev : t.dev = s.dev
  pending : t.pending = s.pending
  inhibit : t.inhibit = s.inhibit
  sleeping : t.sleeping = s.sleeping
  cfg : t.cfg = s.cfg
  env : t.env = s.env
  powerUp : t.powerUp = s.powerUp
  cycles : t.cycles = s.cycles

/-- Every byte of SRAM and every word of program memory reads as before. -/
structure SameMemory (s t : State) : Prop where
  sram : ∀ a, t.sramByte a = s.sramByte a
  prog : ∀ w, t.progWord w = s.progWord w

/-- The frame of an instruction that only writes the registers `ds`, flags and the pc. -/
structure RegFrame (ds : List Reg) (s t : State) : Prop where
  regs : ∀ r, r ∉ ds → t.reg r = s.reg r
  sp : t.sp = s.sp
  memory : SameMemory s t
  hidden : SameHidden s t

end State

/-- `exec`, and its clocks counted (70_reset_and_hazards.md R363). -/
def execCounted (i : Instr) (s : State) : Result :=
  match exec i s with
  | .next t => .next (t.tick (clocks i s))
  | .fault f => .fault f
  | .refused r => .refused r

/-! ### A data-space access as a relation -/

/-- `MemRead(a, 1)` in the state `s` gives the byte `v` and leaves the state `u` (20_memory.md R52); false where no such
cell exists. A device read gives the free value of the devices' history and enters it (R56; log 4). -/
def DataRead (a : Word) (s : State) (v : Byte) (u : State) : Prop :=
  if h : a.toNat ≤ 0x1F then v = s.reg ⟨a.toNat, by omega⟩ ∧ u = s
  else if a.toNat = 0x5D then v.toNat = s.stackPtr.toNat % 256 ∧ u = s
  else if a.toNat = 0x5E then
    v.toNat = s.stackPtr.toNat / 256 ∧ (s.cfg.spBits = .twelve → v.toNat < 16) ∧ u = s
  else if a.toNat = 0x5F then (∀ f : BitPos, v.getLsbD f = s.sreg.get f) ∧ u = s
  else if a.toNat ≤ 0xFF then v = s.deviceByte a ∧ u = { s with dev := .read a :: s.dev }
  else if a.toNat ≤ 0x8FF then v = s.sramByte a ∧ u = s
  else False

/-- `MemWrite(a, 1, v)` in the state `s` leaves the state `u` (20_memory.md R53); false where no such cell exists. What is
pending after a device write is open among the configured sources (R56; log 5), and the write enters the devices'
history (log 4). -/
def DataWrite (a : Word) (v : Byte) (s u : State) : Prop :=
  if h : a.toNat ≤ 0x1F then u = s.setReg ⟨a.toNat, by omega⟩ v
  else if a.toNat = 0x5D then u = { s with sp := u.sp } ∧ u.sp.toNat = s.stackPtr.toNat / 256 * 256 + v.toNat
  else if a.toNat = 0x5E then
    u = { s with sp := u.sp } ∧ u.sp.toNat = (v.toNat * 256 + s.stackPtr.toNat % 256) % s.cfg.spBits.size
  else if a.toNat = 0x5F then
    u = { s with sreg := u.sreg, inhibit := s.inhibit || (!s.sreg.i && u.sreg.i) } ∧
      ∀ f : BitPos, u.sreg.get f = v.getLsbD f
  else if a.toNat ≤ 0xFF then
    u = { s with dev := .write a v :: s.dev, pending := u.pending } ∧
      (s.cfg.requests = 0 → u.pending = s.pending) ∧
      (s.cfg.requests ≠ 0 → u.pending &&& ~~~s.cfg.requests = 0)
  else if a.toNat ≤ 0x8FF then
    u = { s with sram := u.sram } ∧ u.sramByte a = v ∧ ∀ b, b ≠ a → u.sramByte b = s.sramByte b
  else False

/-! ### Flag rules in arithmetic terms -/

/-- How SREG goes from `r` to `r'` in an addition `a + b + cin` (40_arithmetic_logic.md R121). -/
structure AddRule (a b : Byte) (cin : Bool) (r r' : Sreg) : Prop where
  c : r'.c = decide (255 < a.toNat + b.toNat + cin.toNat)
  h : r'.h = decide (15 < a.toNat % 16 + b.toNat % 16 + cin.toNat)
  v : r'.v = decide (a.toInt + b.toInt + cin.toNat < -128 ∨ 127 < a.toInt + b.toInt + cin.toNat)
  n : r'.n = decide (128 ≤ (a.toNat + b.toNat + cin.toNat) % 256)
  z : r'.z = decide ((a.toNat + b.toNat + cin.toNat) % 256 = 0)
  s : r'.s = (r'.n ^^ r'.v)
  t : r'.t = r.t
  i : r'.i = r.i

/-- How SREG goes from `r` to `r'` in a subtraction `a - b - cin` (40_arithmetic_logic.md R122). -/
structure SubRule (a b : Byte) (cin keepZ : Bool) (r r' : Sreg) : Prop where
  c : r'.c = decide (a.toNat < b.toNat + cin.toNat)
  h : r'.h = decide (a.toNat % 16 < b.toNat % 16 + cin.toNat)
  v : r'.v = decide (a.toInt - b.toInt - cin.toNat < -128 ∨ 127 < a.toInt - b.toInt - cin.toNat)
  n : r'.n = decide (128 ≤ (256 + a.toNat - (b.toNat + cin.toNat)) % 256)
  z : r'.z = (decide ((256 + a.toNat - (b.toNat + cin.toNat)) % 256 = 0) && (!keepZ || r.z))
  s : r'.s = (r'.n ^^ r'.v)
  t : r'.t = r.t
  i : r'.i = r.i

/-- How SREG goes from `r` to `r'` in a logic instruction with the result `res` (40_arithmetic_logic.md R123). -/
structure LogicRule (res : Byte) (r r' : Sreg) : Prop where
  v : r'.v = false
  n : r'.n = decide (128 ≤ res.toNat)
  z : r'.z = decide (res.toNat = 0)
  s : r'.s = r'.n
  c : r'.c = r.c
  h : r'.h = r.h
  t : r'.t = r.t
  i : r'.i = r.i

/-- How SREG goes from `r` to `r'` in a right shift of `a` with the result `res` (43_bit_and_bit_test.md R261). -/
structure ShiftRule (a res : Byte) (r r' : Sreg) : Prop where
  c : r'.c = decide (a.toNat % 2 = 1)
  n : r'.n = decide (128 ≤ res.toNat)
  z : r'.z = decide (res.toNat = 0)
  v : r'.v = (r'.n ^^ r'.c)
  s : r'.s = r'.c
  h : r'.h = r.h
  t : r'.t = r.t
  i : r'.i = r.i

/-- How SREG goes from `r` to `r'` in a multiplication with the product `p` before any shift and the 16-bit result `res`
(40_arithmetic_logic.md R125). -/
structure MulRule (p res : Int) (r r' : Sreg) : Prop where
  c : r'.c = decide (32768 ≤ p % 65536)
  z : r'.z = decide (res % 65536 = 0)
  n : r'.n = r.n
  v : r'.v = r.v
  s : r'.s = r.s
  h : r'.h = r.h
  t : r'.t = r.t
  i : r'.i = r.i

/-! ### Effects shared by several instructions, each as what `exec` answers -/

/-- `R[d] <- a + b + cin` with the flags of R121. -/
def IsAddition (i : Instr) (s : State) (d : Reg) (a b : Byte) (cin : Bool) : Prop :=
  ∃ t, exec i s = .next t ∧ (t.reg d).toNat = (a.toNat + b.toNat + cin.toNat) % 256 ∧
    AddRule a b cin s.sreg t.sreg ∧ t.pc = s.pc + 1 ∧ State.RegFrame [d] s t

/-- `R[d] <- a - b - cin` with the flags of R122. -/
def IsSubtraction (i : Instr) (s : State) (d : Reg) (a b : Byte) (cin keepZ : Bool) : Prop :=
  ∃ t, exec i s = .next t ∧ (t.reg d).toNat = (256 + a.toNat - (b.toNat + cin.toNat)) % 256 ∧
    SubRule a b cin keepZ s.sreg t.sreg ∧ t.pc = s.pc + 1 ∧ State.RegFrame [d] s t

/-- The flags of `a - b - cin` by R122, and no result. -/
def IsComparison (i : Instr) (s : State) (a b : Byte) (cin keepZ : Bool) : Prop :=
  ∃ t, exec i s = .next t ∧ SubRule a b cin keepZ s.sreg t.sreg ∧ t.pc = s.pc + 1 ∧ State.RegFrame [] s t

/-- `R[d]` takes the bits `f 7 .. f 0`, with the flags of R123 over the SREG `r`. -/
def IsLogic (i : Instr) (s : State) (d : Reg) (f : Nat → Bool) (r : Sreg) : Prop :=
  ∃ t, exec i s = .next t ∧ (∀ j < 8, (t.reg d).getLsbD j = f j) ∧
    LogicRule (t.reg d) r t.sreg ∧ t.pc = s.pc + 1 ∧ State.RegFrame [d] s t

/-- `R1:R0 <- res` with the flags of R125 of the product `p`. -/
def IsMultiply (i : Instr) (s : State) (p res : Int) : Prop :=
  ∃ t, exec i s = .next t ∧ ((t.pair 0).toNat : Int) = res % 65536 ∧
    MulRule p res s.sreg t.sreg ∧ t.pc = s.pc + 1 ∧ State.RegFrame [0, 1] s t

/-- `R[d] <- res`, the value of a right shift, with the flags of R261. -/
def IsShiftRight (i : Instr) (s : State) (d : Reg) (res : Nat) : Prop :=
  ∃ t, exec i s = .next t ∧ (t.reg d).toNat = res ∧
    ShiftRule (s.reg d) (t.reg d) s.sreg t.sreg ∧ t.pc = s.pc + 1 ∧ State.RegFrame [d] s t

/-- `R[d] <- v` and no flag. -/
def IsMove (i : Instr) (s : State) (d : Reg) (v : Nat) : Prop :=
  ∃ t, exec i s = .next t ∧ (t.reg d).toNat = v ∧ t.sreg = s.sreg ∧ t.pc = s.pc + 1 ∧ State.RegFrame [d] s t

/-- `pc <- target`, taken modulo 2^14, and nothing else (10_state.md R25). -/
def IsJump (i : Instr) (s : State) (target : Int) : Prop :=
  ∃ t, exec i s = .next t ∧ (t.pc.toNat : Int) = target % 16384 ∧ t.sreg = s.sreg ∧ State.RegFrame [] s t

/-- `pc <- pc + 1 + k` if the condition holds, else `pc + 1`, and nothing else (41_branch.md R164). -/
def IsBranch (i : Instr) (s : State) (cond : Bool) (k : BitVec 7) : Prop :=
  IsJump i s (if cond then s.pc.toNat + 1 + k.toInt else s.pc.toNat + 1)

/-- Where a skip goes: over the following instruction if the condition holds (41_branch.md R163). -/
def skipTarget (s : State) (cond : Bool) : ProgAddr :=
  if cond then (if isTwoWord (s.progWord (s.pc + 1)) then s.pc + 3 else s.pc + 2) else s.pc + 1

/-- `SREG(f) <- x`, no other flag changed, and the one-instruction rule when that sets I from 0
(43_bit_and_bit_test.md R272, R273; 60_exceptions.md R319). -/
def IsFlagWrite (i : Instr) (s : State) (f : BitPos) (x : Bool) : Prop :=
  ∃ r : Sreg, (∀ g, r.get g = if g = f then x else s.sreg.get g) ∧
    exec i s = .next
      { s with sreg := r, pc := s.pc + 1, inhibit := s.inhibit || (decide (f = 7) && x && !s.sreg.i) }

/-! ### Loads, stores and the stack -/

/-- The instruction is a load of the data address `a` into `d`, `n` words long (42_data_transfer.md R210): it completes
for every address of the data map and faults above it. -/
def IsLoad (i : Instr) (s : State) (d : Reg) (a : Word) (n : ProgAddr) : Prop :=
  if a.toNat ≤ 0x8FF then ∃ v u, DataRead a s v u ∧ exec i s = .next ((u.setReg d v).setPc (s.pc + n))
  else exec i s = .fault (.unmappedData a .read)

/-- The instruction is a store of `v` at the data address `a`, `n` words long (42_data_transfer.md R210). -/
def IsStore (i : Instr) (s : State) (a : Word) (v : Byte) (n : ProgAddr) : Prop :=
  if a.toNat ≤ 0x8FF then ∃ u, DataWrite a v s u ∧ exec i s = .next (u.setPc (s.pc + n))
  else exec i s = .fault (.unmappedData a .write)

/-- A load with post-increment: undefined for the pointer's own registers, else the byte at the pointer, and the pointer
read before the access plus 1 (42_data_transfer.md R213, R218, R221, R225). -/
def IsLoadPostInc (i : Instr) (mnemonic : String) (s : State) (d : Reg) (p : Pointer) : Prop :=
  if d = p.low ∨ d = p.low + 1 then exec i s = .fault (.undefinedOperand mnemonic d)
  else if (s.ptr p).toNat ≤ 0x8FF then
    ∃ v u, DataRead (s.ptr p) s v u ∧ exec i s = .next (((u.setReg d v).setPtr p (s.ptr p + 1)).setPc (s.pc + 1))
  else exec i s = .fault (.unmappedData (s.ptr p) .read)

/-- A load with pre-decrement: the pointer minus 1 is written first, then the byte there is read
(42_data_transfer.md R213, R219, R222, R226). -/
def IsLoadPreDec (i : Instr) (mnemonic : String) (s : State) (d : Reg) (p : Pointer) : Prop :=
  if d = p.low ∨ d = p.low + 1 then exec i s = .fault (.undefinedOperand mnemonic d)
  else if (s.ptr p - 1).toNat ≤ 0x8FF then
    ∃ v u, DataRead (s.ptr p - 1) (s.setPtr p (s.ptr p - 1)) v u ∧
      exec i s = .next ((u.setReg d v).setPc (s.pc + 1))
  else exec i s = .fault (.unmappedData (s.ptr p - 1) .read)

/-- A store with post-increment: the byte at the pointer, then the pointer read before the store plus 1
(42_data_transfer.md R213, R230, R233, R237). -/
def IsStorePostInc (i : Instr) (mnemonic : String) (s : State) (r : Reg) (p : Pointer) : Prop :=
  if r = p.low ∨ r = p.low + 1 then exec i s = .fault (.undefinedOperand mnemonic r)
  else if (s.ptr p).toNat ≤ 0x8FF then
    ∃ u, DataWrite (s.ptr p) (s.reg r) s u ∧ exec i s = .next ((u.setPtr p (s.ptr p + 1)).setPc (s.pc + 1))
  else exec i s = .fault (.unmappedData (s.ptr p) .write)

/-- A store with pre-decrement: the pointer minus 1 is written first, then the byte there
(42_data_transfer.md R213, R231, R234, R238). -/
def IsStorePreDec (i : Instr) (mnemonic : String) (s : State) (r : Reg) (p : Pointer) : Prop :=
  if r = p.low ∨ r = p.low + 1 then exec i s = .fault (.undefinedOperand mnemonic r)
  else if (s.ptr p - 1).toNat ≤ 0x8FF then
    ∃ u, DataWrite (s.ptr p - 1) (s.reg r) (s.setPtr p (s.ptr p - 1)) u ∧ exec i s = .next (u.setPc (s.pc + 1))
  else exec i s = .fault (.unmappedData (s.ptr p - 1) .write)

/-- `Push8(v)` as a relation; SP is modulo `2^SP_BITS` (42_data_transfer.md R211, 10_state.md R29). -/
def Pushed (v : Byte) (s u : State) : Prop :=
  ∃ w, DataWrite s.stackPtr v s w ∧
    u = { w with sp := BitVec.ofNat 16 ((w.stackPtr.toNat + w.cfg.spBits.size - 1) % w.cfg.spBits.size) }

/-- The address a pop loads from: SP plus 1, modulo `2^SP_BITS` (42_data_transfer.md R212). -/
def State.popAddr (s : State) : Word := BitVec.ofNat 16 ((s.stackPtr.toNat + 1) % s.cfg.spBits.size)

/-- `Pop8()` as a relation (42_data_transfer.md R212). -/
def Popped (s : State) (v : Byte) (u : State) : Prop := DataRead s.popAddr { s with sp := s.popAddr } v u

/-- The answer `r` pushes the return address `ret`, low byte first, and goes on to a state as `next` says; it is a fault
where SP leaves the data map, at the first push or at the second (41_branch.md R161; 70_reset_and_hazards.md R358). -/
def PushesReturn (r : Result) (ret : ProgAddr) (s : State) (next : State → Prop) : Prop :=
  if s.stackPtr.toNat ≤ 0x8FF then
    ∃ u, Pushed (BitVec.ofNat 8 (ret.toNat % 256)) s u ∧
      if u.stackPtr.toNat ≤ 0x8FF then ∃ w, Pushed (BitVec.ofNat 8 (ret.toNat / 256)) u w ∧ next w
      else r = .fault (.unmappedData u.stackPtr .write)
  else r = .fault (.unmappedData s.stackPtr .write)

/-- The instruction pushes the return address `ret`, then goes to `target` (41_branch.md R161). -/
def IsCall (i : Instr) (s : State) (target ret : ProgAddr) : Prop :=
  PushesReturn (exec i s) ret s fun w => exec i s = .next (w.setPc target)

/-- The answer `r` takes the interrupt of vector `n` in the state `u`: the request is removed if it is flag-type, I is
cleared, the pc is pushed, and then the CPU is awake at the vector; the entry counts 4 clocks, or at least 4 when it wakes
the CPU (60_exceptions.md R316, R331; log 21). -/
def EntersInterrupt (r : Result) (u : State) (n : Nat) : Prop :=
  ∃ e : State, e = { u with pending := e.pending, sreg := { u.sreg with i := false } } ∧
    (∀ m, e.pending.getLsbD m = (u.pending.getLsbD m && (decide (m ≠ n) || u.cfg.levelSources.getLsbD n))) ∧
    PushesReturn r u.pc e fun w =>
      ∃ c, 4 ≤ c ∧ (u.sleeping = false → c = 4) ∧
        r = .next { w with
          pc := u.cfg.vectorBase + BitVec.ofNat 14 (2 * n), sleeping := false, cycles := w.cycles + c }

/-- The instruction pops a return address, high byte first, and `fin` makes the state out of it; it faults where SP leaves
the data map (41_branch.md R162). -/
def IsReturn (i : Instr) (s : State) (fin : ProgAddr → State → State) : Prop :=
  if s.popAddr.toNat ≤ 0x8FF then
    ∃ hi u, Popped s hi u ∧
      if u.popAddr.toNat ≤ 0x8FF then
        ∃ lo w, Popped u lo w ∧ exec i s = .next (fin (BitVec.ofNat 14 (hi.toNat * 256 + lo.toNat)) w)
      else exec i s = .fault (.unmappedData u.popAddr .read)
  else exec i s = .fault (.unmappedData s.popAddr .read)

/-! ### What every instruction may change -/

/-- The flags an instruction's row of the table lists, by bit number; LSL, LSR, ROL, ROR and ASR with S (the Flags column
of 40_arithmetic_logic.md to 44_mcu_control.md; 90_conflicts.md C3). -/
def flagsListed : Instr → List BitPos
  | .add _ _ => [0, 1, 2, 3, 4, 5]
  | .adc _ _ => [0, 1, 2, 3, 4, 5]
  | .adiw _ _ => [0, 1, 2, 3, 4]
  | .sub _ _ => [0, 1, 2, 3, 4, 5]
  | .subi _ _ => [0, 1, 2, 3, 4, 5]
  | .sbc _ _ => [0, 1, 2, 3, 4, 5]
  | .sbci _ _ => [0, 1, 2, 3, 4, 5]
  | .sbiw _ _ => [0, 1, 2, 3, 4]
  | .and _ _ => [1, 2, 3, 4]
  | .andi _ _ => [1, 2, 3, 4]
  | .or _ _ => [1, 2, 3, 4]
  | .ori _ _ => [1, 2, 3, 4]
  | .eor _ _ => [1, 2, 3, 4]
  | .com _ => [0, 1, 2, 3, 4]
  | .neg _ => [0, 1, 2, 3, 4, 5]
  | .sbr _ _ => [1, 2, 3, 4]
  | .cbr _ _ => [1, 2, 3, 4]
  | .inc _ => [1, 2, 3, 4]
  | .dec _ => [1, 2, 3, 4]
  | .tst _ => [1, 2, 3, 4]
  | .clr _ => [1, 2, 3, 4]
  | .ser _ => []
  | .mul _ _ => [0, 1]
  | .muls _ _ => [0, 1]
  | .mulsu _ _ => [0, 1]
  | .fmul _ _ => [0, 1]
  | .fmuls _ _ => [0, 1]
  | .fmulsu _ _ => [0, 1]
  | .rjmp _ => []
  | .ijmp => []
  | .jmp _ => []
  | .rcall _ => []
  | .icall => []
  | .call _ => []
  | .ret => []
  | .reti => [7]
  | .cpse _ _ => []
  | .cp _ _ => [0, 1, 2, 3, 4, 5]
  | .cpc _ _ => [0, 1, 2, 3, 4, 5]
  | .cpi _ _ => [0, 1, 2, 3, 4, 5]
  | .sbrc _ _ => []
  | .sbrs _ _ => []
  | .sbic _ _ => []
  | .sbis _ _ => []
  | .brbs _ _ => []
  | .brbc _ _ => []
  | .breq _ => []
  | .brne _ => []
  | .brcs _ => []
  | .brcc _ => []
  | .brsh _ => []
  | .brlo _ => []
  | .brmi _ => []
  | .brpl _ => []
  | .brge _ => []
  | .brlt _ => []
  | .brhs _ => []
  | .brhc _ => []
  | .brts _ => []
  | .brtc _ => []
  | .brvs _ => []
  | .brvc _ => []
  | .brie _ => []
  | .brid _ => []
  | .mov _ _ => []
  | .movw _ _ => []
  | .ldi _ _ => []
  | .ldX _ => []
  | .ldXInc _ => []
  | .ldXDec _ => []
  | .ldY _ => []
  | .ldYInc _ => []
  | .ldYDec _ => []
  | .lddY _ _ => []
  | .ldZ _ => []
  | .ldZInc _ => []
  | .ldZDec _ => []
  | .lddZ _ _ => []
  | .lds _ _ => []
  | .stX _ => []
  | .stXInc _ => []
  | .stXDec _ => []
  | .stY _ => []
  | .stYInc _ => []
  | .stYDec _ => []
  | .stdY _ _ => []
  | .stZ _ => []
  | .stZInc _ => []
  | .stZDec _ => []
  | .stdZ _ _ => []
  | .sts _ _ => []
  | .lpm => []
  | .lpmZ _ => []
  | .lpmZInc _ => []
  | .spm => []
  | .inp _ _ => []
  | .out _ _ => []
  | .push _ => []
  | .pop _ => []
  | .sbi _ _ => []
  | .cbi _ _ => []
  | .lsl _ => [0, 1, 2, 3, 4, 5]
  | .lsr _ => [0, 1, 2, 3, 4]
  | .rol _ => [0, 1, 2, 3, 4, 5]
  | .ror _ => [0, 1, 2, 3, 4]
  | .asr _ => [0, 1, 2, 3, 4]
  | .swap _ => []
  | .bst _ _ => [6]
  | .bld _ _ => []
  | .bset f => [f]
  | .bclr f => [f]
  | .sec => [0]
  | .clc => [0]
  | .sen => [2]
  | .cln => [2]
  | .sez => [1]
  | .clz => [1]
  | .sei => [7]
  | .cli => [7]
  | .ses => [4]
  | .cls => [4]
  | .sev => [3]
  | .clv => [3]
  | .setT => [6]
  | .clt => [6]
  | .seh => [5]
  | .clh => [5]
  | .nop => []
  | .sleep => []
  | .wdr => []
  | .brk => []

/-- The registers an instruction names as its destination, or updates as its pointer (the Operation column). -/
def destinations : Instr → List Reg
  | .add d _ => [d]
  | .adc d _ => [d]
  | .adiw d _ => [d, d + 1]
  | .sub d _ => [d]
  | .subi d _ => [d]
  | .sbc d _ => [d]
  | .sbci d _ => [d]
  | .sbiw d _ => [d, d + 1]
  | .and d _ => [d]
  | .andi d _ => [d]
  | .or d _ => [d]
  | .ori d _ => [d]
  | .eor d _ => [d]
  | .com d => [d]
  | .neg d => [d]
  | .sbr d _ => [d]
  | .cbr d _ => [d]
  | .inc d => [d]
  | .dec d => [d]
  | .tst d => [d]
  | .clr d => [d]
  | .ser d => [d]
  | .mul _ _ => [0, 1]
  | .muls _ _ => [0, 1]
  | .mulsu _ _ => [0, 1]
  | .fmul _ _ => [0, 1]
  | .fmuls _ _ => [0, 1]
  | .fmulsu _ _ => [0, 1]
  | .rjmp _ => []
  | .ijmp => []
  | .jmp _ => []
  | .rcall _ => []
  | .icall => []
  | .call _ => []
  | .ret => []
  | .reti => []
  | .cpse _ _ => []
  | .cp _ _ => []
  | .cpc _ _ => []
  | .cpi _ _ => []
  | .sbrc _ _ => []
  | .sbrs _ _ => []
  | .sbic _ _ => []
  | .sbis _ _ => []
  | .brbs _ _ => []
  | .brbc _ _ => []
  | .breq _ => []
  | .brne _ => []
  | .brcs _ => []
  | .brcc _ => []
  | .brsh _ => []
  | .brlo _ => []
  | .brmi _ => []
  | .brpl _ => []
  | .brge _ => []
  | .brlt _ => []
  | .brhs _ => []
  | .brhc _ => []
  | .brts _ => []
  | .brtc _ => []
  | .brvs _ => []
  | .brvc _ => []
  | .brie _ => []
  | .brid _ => []
  | .mov d _ => [d]
  | .movw d _ => [d, d + 1]
  | .ldi d _ => [d]
  | .ldX d => [d]
  | .ldXInc d => [d, 26, 27]
  | .ldXDec d => [d, 26, 27]
  | .ldY d => [d]
  | .ldYInc d => [d, 28, 29]
  | .ldYDec d => [d, 28, 29]
  | .lddY d _ => [d]
  | .ldZ d => [d]
  | .ldZInc d => [d, 30, 31]
  | .ldZDec d => [d, 30, 31]
  | .lddZ d _ => [d]
  | .lds d _ => [d]
  | .stX _ => []
  | .stXInc _ => [26, 27]
  | .stXDec _ => [26, 27]
  | .stY _ => []
  | .stYInc _ => [28, 29]
  | .stYDec _ => [28, 29]
  | .stdY _ _ => []
  | .stZ _ => []
  | .stZInc _ => [30, 31]
  | .stZDec _ => [30, 31]
  | .stdZ _ _ => []
  | .sts _ _ => []
  | .lpm => [0]
  | .lpmZ d => [d]
  | .lpmZInc d => [d, 30, 31]
  | .spm => []
  | .inp d _ => [d]
  | .out _ _ => []
  | .push _ => []
  | .pop d => [d]
  | .sbi _ _ => []
  | .cbi _ _ => []
  | .lsl d => [d]
  | .lsr d => [d]
  | .rol d => [d]
  | .ror d => [d]
  | .asr d => [d]
  | .swap d => [d]
  | .bst _ _ => []
  | .bld d _ => [d]
  | .bset _ => []
  | .bclr _ => []
  | .sec => []
  | .clc => []
  | .sen => []
  | .cln => []
  | .sez => []
  | .clz => []
  | .sei => []
  | .cli => []
  | .ses => []
  | .cls => []
  | .sev => []
  | .clv => []
  | .setT => []
  | .clt => []
  | .seh => []
  | .clh => []
  | .nop => []
  | .sleep => []
  | .wdr => []
  | .brk => []

/-- The two addresses a return address is pushed to: SP, and what SP then is (41_branch.md R161). -/
def pushedAddrs (a : ProgAddr) (s : State) : List Word :=
  match push8 (a.extractLsb' 0 8) s with
  | .ok u => [s.stackPtr, u.stackPtr]
  | .error _ => [s.stackPtr]

/-- The data-space addresses an instruction stores to, computed as its meaning computes them. -/
def storedAddrs (i : Instr) (s : State) : List Word :=
  match i with
  | .add _ _ => []
  | .adc _ _ => []
  | .adiw _ _ => []
  | .sub _ _ => []
  | .subi _ _ => []
  | .sbc _ _ => []
  | .sbci _ _ => []
  | .sbiw _ _ => []
  | .and _ _ => []
  | .andi _ _ => []
  | .or _ _ => []
  | .ori _ _ => []
  | .eor _ _ => []
  | .com _ => []
  | .neg _ => []
  | .sbr _ _ => []
  | .cbr _ _ => []
  | .inc _ => []
  | .dec _ => []
  | .tst _ => []
  | .clr _ => []
  | .ser _ => []
  | .mul _ _ => []
  | .muls _ _ => []
  | .mulsu _ _ => []
  | .fmul _ _ => []
  | .fmuls _ _ => []
  | .fmulsu _ _ => []
  | .rjmp _ => []
  | .ijmp => []
  | .jmp _ => []
  | .rcall _ => pushedAddrs (s.pc + 1) s
  | .icall => pushedAddrs (s.pc + 1) s
  | .call _ => pushedAddrs (s.pc + 2) s
  | .ret => []
  | .reti => []
  | .cpse _ _ => []
  | .cp _ _ => []
  | .cpc _ _ => []
  | .cpi _ _ => []
  | .sbrc _ _ => []
  | .sbrs _ _ => []
  | .sbic _ _ => []
  | .sbis _ _ => []
  | .brbs _ _ => []
  | .brbc _ _ => []
  | .breq _ => []
  | .brne _ => []
  | .brcs _ => []
  | .brcc _ => []
  | .brsh _ => []
  | .brlo _ => []
  | .brmi _ => []
  | .brpl _ => []
  | .brge _ => []
  | .brlt _ => []
  | .brhs _ => []
  | .brhc _ => []
  | .brts _ => []
  | .brtc _ => []
  | .brvs _ => []
  | .brvc _ => []
  | .brie _ => []
  | .brid _ => []
  | .mov _ _ => []
  | .movw _ _ => []
  | .ldi _ _ => []
  | .ldX _ => []
  | .ldXInc _ => []
  | .ldXDec _ => []
  | .ldY _ => []
  | .ldYInc _ => []
  | .ldYDec _ => []
  | .lddY _ _ => []
  | .ldZ _ => []
  | .ldZInc _ => []
  | .ldZDec _ => []
  | .lddZ _ _ => []
  | .lds _ _ => []
  | .stX _ => [s.ptr .x]
  | .stXInc _ => [s.ptr .x]
  | .stXDec _ => [s.ptr .x - 1]
  | .stY _ => [s.ptr .y]
  | .stYInc _ => [s.ptr .y]
  | .stYDec _ => [s.ptr .y - 1]
  | .stdY q _ => [s.displaced .y q]
  | .stZ _ => [s.ptr .z]
  | .stZInc _ => [s.ptr .z]
  | .stZDec _ => [s.ptr .z - 1]
  | .stdZ q _ => [s.displaced .z q]
  | .sts k _ => [k]
  | .lpm => []
  | .lpmZ _ => []
  | .lpmZInc _ => []
  | .spm => []
  | .inp _ _ => []
  | .out a _ => [ioAddr s.cfg a]
  | .push _ => [s.stackPtr]
  | .pop _ => []
  | .sbi a _ => [ioAddr5 s.cfg a]
  | .cbi a _ => [ioAddr5 s.cfg a]
  | .lsl _ => []
  | .lsr _ => []
  | .rol _ => []
  | .ror _ => []
  | .asr _ => []
  | .swap _ => []
  | .bst _ _ => []
  | .bld _ _ => []
  | .bset _ => []
  | .bclr _ => []
  | .sec => []
  | .clc => []
  | .sen => []
  | .cln => []
  | .sez => []
  | .clz => []
  | .sei => []
  | .cli => []
  | .ses => []
  | .cls => []
  | .sev => []
  | .clv => []
  | .setT => []
  | .clt => []
  | .seh => []
  | .clh => []
  | .nop => []
  | .sleep => []
  | .wdr => []
  | .brk => []

/-- The instructions that move SP of their own (10_state.md R29). -/
def movesSp (i : Instr) : Bool :=
  match i with
  | .push _ | .pop _ | .rcall _ | .icall | .call _ | .ret | .reti => true
  | _ => false

end Sys2Proof.Machine
end

