-- ==== Sys2Proof/Certificates/Slice0/Obligations.lean ====
section
/-!
DEFINITION. The statements for the provers, from the numbered rules of the spec. The relations and rules they are written
with are in Sys2Proof/Safety.lean.
-/

open Sys2Proof Sys2Proof.Machine

/-- Decode and encode agree on every well-formed instruction (30_encoding.md R82, R100, R102, R103). -/
def Obligations.DecodeOfEncode : Prop :=
  ∀ (i : Instr) (rest : List Byte), i.wellFormed = true →
    decode (wordBytes (encode i) ++ rest) = .ok (i.canonical, rest)

/-- The decoder drops no bit of a word (30_encoding.md R81, R102, R108). -/
def Obligations.EncodeOfDecode : Prop :=
  ∀ (w0 w1 : Word) (i : Instr), decodeWords w0 w1 = some i →
    i.wellFormed = true ∧ i.canonical = i ∧
    encode i = (if isTwoWord w0 then [w0, w1] else [w0]) ∧
    (isTwoWord w0 = true ↔
      (∃ d k, i = .lds d k) ∨ (∃ k r, i = .sts k r) ∨ (∃ k, i = .jmp k) ∨ (∃ k, i = .call k))

/-- The canonical patterns are pairwise disjoint (30_encoding.md R102). -/
def Obligations.RowsDisjoint : Prop :=
  Decode.rows.length = 86 ∧
  ∀ w : Word, (Decode.rows.filter fun row => w &&& row.mask == row.pattern).length ≤ 1

/-- The reserved first words (30_encoding.md R106), but for their count. -/
def Obligations.ReservedWords : Prop :=
  ∀ w w1 : Word, decodeWords w w1 = none ↔
    (w &&& 0xFF00 = 0x0000 ∧ w ≠ 0x0000) ∨
    (w &&& 0xFE00 = 0x9000 ∧ w &&& 0x000F ∈ [0x3, 0x6, 0x7, 0x8, 0xB]) ∨
    (w &&& 0xFE00 = 0x9200 ∧ w &&& 0x000F ∈ [0x3, 0x4, 0x5, 0x6, 0x7, 0x8, 0xB]) ∨
    w &&& 0xFE0F = 0x9404 ∨
    (w &&& 0xFF0F = 0x9508 ∧ w &&& 0x00F0 ∈ [0x20, 0x30, 0x40, 0x50, 0x60, 0x70, 0xB0, 0xD0, 0xF0]) ∨
    (w &&& 0xFE0F = 0x9409 ∧ w ≠ 0x9409 ∧ w ≠ 0x9509) ∨
    w &&& 0xFE0F = 0x940B ∨
    w &&& 0xF808 = 0xF808

/-- A sanity statement on fixed words of 95_test_vectors.md: 0x0F01 is V1, 0x96DF V11, 0xF3F1 V149, 0xAC5F V218 and
0x9220 0x08FF V249 (sections 2.1 to 2.3); 0x940D, 0x9A2D, 0x9588 and 0xFFFF stand in the table of section 2.6. -/
def Obligations.DecodedWords : Prop :=
  decodeWords 0x0F01 0 = some (.add 16 17) ∧ decodeWords 0x96DF 0 = some (.adiw 26 63) ∧
  decodeWords 0x940D 0x1234 = some (.jmp 0x11234) ∧ decodeWords 0xF3F1 0 = some (.brbs 1 0x7E) ∧
  decodeWords 0xAC5F 0 = some (.lddY 5 63) ∧ decodeWords 0x9220 0x08FF = some (.sts 0x08FF 2) ∧
  decodeWords 0x9A2D 0 = some (.sbi 5 5) ∧ decodeWords 0x9588 0 = some .sleep ∧
  decodeWords 0xFFFF 0 = none

/-- The 45 alias rows have definitions of their own; they agree with their expansions (30_encoding.md R103). -/
def Obligations.AliasMeaning : Prop :=
  ∀ (i : Instr) (s : State), exec i s = exec i.canonical s

/-- The values of 10_state.md R37 and 70_reset_and_hazards.md R350, R352; that the stack needs nothing done is R353 item
1. -/
def Obligations.ResetValues : Prop :=
  State.reset.pc = 0x0000 ∧ State.reset.sreg.toByte = 0x00 ∧ State.reset.sp = 0x8FF ∧ State.reset.stackRoom 0x800 ∧
  State.reset.pending = 0 ∧ State.reset.inhibit = false ∧ State.reset.sleeping = false ∧
  ∀ w, State.reset.progWord w = 0xFFFF

/-- The MODEL's choice where 10_state.md R37 says "unspecified": notes/assumptions/1.md and 2.md. -/
def Obligations.ResetChosenValues : Prop :=
  (∀ r, State.reset.reg r = 0x00) ∧ ∀ a, State.reset.sramByte a = Config.sramPowerOn 0 a

/-- The invariant of Safety.lean at reset. -/
def Obligations.ResetInv : Prop :=
  State.reset.Inv

/-- The memories stay canonical, SP stays within `SP_BITS` (10_state.md R29), and no request of an absent source is ever
pending (60_exceptions.md R313). -/
def Obligations.StepKeepsInv : Prop :=
  ∀ s t : State, s.Inv → step s = .next t → t.Inv

/-- Program memory never changes during a run (10_state.md R33, R36). -/
def Obligations.StepKeepsProgram : Prop :=
  ∀ s t : State, step s = .next t → (∀ w, t.progWord w = s.progWord w) ∧ t.flash = s.flash ∧ t.cfg = s.cfg

/-- The cycle counter appears in no guard (70_reset_and_hazards.md R363). The MODEL's choice, not the rule's: that a
reset event leaves the count running, on which a step with a reset rests (notes/assumptions/20.md, 21.md), and that what
waking or sleeping on counts does not depend on the count (notes/assumptions/21.md). -/
def Obligations.ClockCountUnread : Prop :=
  ∀ (s : State) (n : Nat),
    match step s with
    | .next t => step (s.tick n) = .next (t.tick n)
    | .fault f => step (s.tick n) = .fault f
    | .refused r => step (s.tick n) = .refused r

/-- Fetch, decode, execute (60_exceptions.md R340). -/
def Obligations.StepRunsDecoded : Prop :=
  ∀ (s : State) (i : Instr) (rest : List Byte),
    let u := { envStep s with inhibit := false }
    u.interruptDue (envStep s).inhibit = none → u.sleeping = false →
    decode u.fetchedBytes = .ok (i, rest) →
    i.wellFormed = true ∧ step s = execCounted i u

/-- IllegalInstruction(word) (60_exceptions.md R311). -/
def Obligations.ReservedWordFaults : Prop :=
  ∀ (s : State) (w : Word),
    let u := { envStep s with inhibit := false }
    u.interruptDue (envStep s).inhibit = none → u.sleeping = false →
    decode u.fetchedBytes = .error (.reserved w) →
    step s = .fault (.illegalInstruction w u.pc)

/-- Interrupt entry (60_exceptions.md R316) for every value of SP, and what software must have done for it to reach a
handler (70_reset_and_hazards.md R353). The clocks that waking adds are the model's choice (log 21). -/
def Obligations.InterruptEntry : Prop :=
  ∀ (s : State) (n : Nat),
    let u := envStep s
    u.sreg.i = true → u.inhibit = false → 1 ≤ n → n ≤ 25 → u.pending.getLsbD n = true →
    (∀ m, 1 ≤ m → m < n → u.pending.getLsbD m = false) →
    EntersInterrupt (step s) u n ∧
    (u.stackRoom 2 → ∃ t, step s = .next t ∧
      t.pc = u.cfg.vectorBase + BitVec.ofNat 14 (2 * n) ∧ t.stackPtr = u.stackPtr - 2 ∧
      (t.sramByte u.stackPtr).toNat = u.pc.toNat % 256 ∧
      (t.sramByte (u.stackPtr - 1)).toNat = u.pc.toNat / 256 ∧
      (∀ a, a ≠ u.stackPtr → a ≠ u.stackPtr - 1 → t.sramByte a = u.sramByte a) ∧
      (∀ w, t.progWord w = u.progWord w) ∧ t.regs = u.regs ∧
      t.sreg = { u.sreg with i := false } ∧ t.sleeping = false ∧ t.inhibit = false ∧
      (∀ m, t.pending.getLsbD m = (u.pending.getLsbD m && (decide (m ≠ n) || u.cfg.levelSources.getLsbD n))) ∧
      t.dev = u.dev ∧ t.cfg = u.cfg ∧ t.env = u.env ∧ t.powerUp = u.powerUp ∧
      (u.sleeping = false → t.cycles = u.cycles + 4)) ∧
    (u.readyForInterrupts → u.cfg.requests.getLsbD n = true → ∃ t i, step s = .next t ∧ fetch t = .ok i)

/-- PushPC can raise UnmappedAccess (60_exceptions.md R316), at either push (70_reset_and_hazards.md R358). -/
def Obligations.InterruptEntryFaults : Prop :=
  ∀ (s : State) (n : Nat),
    let u := envStep s
    u.sreg.i = true → u.inhibit = false → 1 ≤ n → n ≤ 25 → u.pending.getLsbD n = true →
    (0x900 ≤ u.stackPtr.toNat → step s = .fault (.unmappedData u.stackPtr .write)) ∧
    (u.stackPtr = 0x0000 →
      step s = .fault (.unmappedData (if u.cfg.spBits = .twelve then 0x0FFF else 0xFFFF) .write))

/-- The choice among pending requests (60_exceptions.md R315). -/
def Obligations.InterruptPriority : Prop :=
  ∀ (c : Config) (p : IntSet),
    (∀ n, lowestRequest c p = some n ↔
      (1 ≤ n ∧ n ≤ 25 ∧ p.getLsbD n = true ∧ ∀ m, 1 ≤ m → m < n → p.getLsbD m = false)) ∧
    (lowestRequest c p = none ↔ ∀ n, 1 ≤ n → n ≤ 25 → p.getLsbD n = false)

/-- The one-instruction rule (60_exceptions.md R319), over all instructions. -/
def Obligations.EnableDelaysInterrupts : Prop :=
  ∀ (i : Instr) (s t : State), s.inhibit = false → exec i s = .next t →
    (t.inhibit = true ↔ i = .reti ∨ (s.sreg.i = false ∧ t.sreg.i = true))

/-- While asleep the CPU executes nothing (44_mcu_control.md R301, 60_exceptions.md R328). The MODEL's choice: the next
state answered (notes/assumptions/29.md), the clock count (21.md) and the form of `stuckAsleep` (25.md). -/
def Obligations.StuckAsleepStays : Prop :=
  ∀ s : State, s.Inv → s.stuckAsleep →
    ∃ t, step s = .next t ∧ State.SameCpu s t ∧ t.cycles = s.cycles ∧ t.stuckAsleep

/-- The suggested HaltCondition is a fixed point (92_eei_decisions.md D30). The forms of `selfJumping` and `halted` are
the MODEL's (notes/assumptions/25.md). -/
def Obligations.HaltedStays : Prop :=
  ∀ s : State, s.Inv → s.selfJumping →
    (∃ t, step s = .next t ∧ State.SameCpu s t ∧ t.cycles = s.cycles + 2 ∧ t.selfJumping ∧ (s.halted → t.halted)) ∧
    (s.halted → ∀ k, State.runToHalt k s = .next s)

/-- The default configuration (60_exceptions.md R313, R340). -/
def Obligations.SourcelessMachine : Prop :=
  ∀ s : State, s.cfg.requests = 0 → s.pending = 0 → s.cfg.spontaneousReset = false →
    (∀ t, step s = .next t → t.pending = 0) ∧
    (s.sleeping = false → step s = runInstr { envStep s with inhibit := false })

/-- The environment never writes R, SRAM, pc, SP or SREG (60_exceptions.md R312). -/
def Obligations.EnvironmentFrame : Prop :=
  ∀ s : State, (s.cfg.spontaneousReset = false ∨ ∀ e rest, s.env = e :: rest → e.reset = none) →
    State.SameCpu s (envStep s) ∧ (envStep s).inhibit = s.inhibit ∧ (envStep s).cycles = s.cycles ∧
    (∀ n, (envStep s).pending.getLsbD n = true → s.pending.getLsbD n = true ∨ s.cfg.requests.getLsbD n = true) ∧
    (∀ n, s.pending.getLsbD n = true → (envStep s).pending.getLsbD n = false →
      s.cfg.levelSources.getLsbD n = true)

/-- The reset event (70_reset_and_hazards.md R351); requests raised by the same action are cleared:
notes/assumptions/20.md. -/
def Obligations.ResetDuringRun : Prop :=
  ∀ (s : State) (e : EnvAction) (rest : List EnvAction) (src : ResetSource),
    s.env = e :: rest → e.reset = some src → s.cfg.spontaneousReset = true →
    let u := envStep s
    u.pc = s.cfg.resetPc ∧ u.sreg.toByte = 0x00 ∧ u.sp = 0x8FF ∧ u.pending = 0 ∧
    u.inhibit = false ∧ u.sleeping = false ∧ (∀ w, u.progWord w = s.progWord w) ∧ u.cfg = s.cfg ∧
    (src ≠ .powerOn → ∀ a, u.sramByte a = s.sramByte a)

/-- AddFlags (40_arithmetic_logic.md R121). -/
def Obligations.AddFlagsRule : Prop :=
  ∀ (a b : Byte) (cin : Bool) (r : Sreg),
    let res : Byte := BitVec.ofNat 8 (a.toNat + b.toNat + cin.toNat)
    let r' := addFlags a b cin r
    (r'.h = ((a.getLsbD 3 && b.getLsbD 3) || (b.getLsbD 3 && !res.getLsbD 3) || (!res.getLsbD 3 && a.getLsbD 3)) ∧
      r'.c = ((a.getLsbD 7 && b.getLsbD 7) || (b.getLsbD 7 && !res.getLsbD 7) || (!res.getLsbD 7 && a.getLsbD 7)) ∧
      r'.v = ((a.getLsbD 7 && b.getLsbD 7 && !res.getLsbD 7) || (!a.getLsbD 7 && !b.getLsbD 7 && res.getLsbD 7)) ∧
      r'.n = res.getLsbD 7 ∧ r'.z = decide (res = 0x00) ∧ r'.s = (r'.n ^^ r'.v)) ∧
    AddRule a b cin r r'

/-- SubFlags (40_arithmetic_logic.md R122). -/
def Obligations.SubFlagsRule : Prop :=
  ∀ (a b : Byte) (cin keepZ : Bool) (r : Sreg),
    let res : Byte := BitVec.ofNat 8 (256 + a.toNat - (b.toNat + cin.toNat))
    let r' := subFlags a b cin keepZ r
    (r'.h = ((!a.getLsbD 3 && b.getLsbD 3) || (b.getLsbD 3 && res.getLsbD 3) || (res.getLsbD 3 && !a.getLsbD 3)) ∧
      r'.c = ((!a.getLsbD 7 && b.getLsbD 7) || (b.getLsbD 7 && res.getLsbD 7) || (res.getLsbD 7 && !a.getLsbD 7)) ∧
      r'.v = ((a.getLsbD 7 && !b.getLsbD 7 && !res.getLsbD 7) || (!a.getLsbD 7 && b.getLsbD 7 && res.getLsbD 7)) ∧
      r'.n = res.getLsbD 7 ∧ r'.z = (if keepZ then decide (res = 0x00) && r.z else decide (res = 0x00)) ∧
      r'.s = (r'.n ^^ r'.v)) ∧
    SubRule a b cin keepZ r r'

/-- SREG bit positions (10_state.md R27). -/
def Obligations.SregAsByte : Prop :=
  ∀ (r : Sreg) (v : Byte),
    (r.get 0 = r.c ∧ r.get 1 = r.z ∧ r.get 2 = r.n ∧ r.get 3 = r.v ∧
      r.get 4 = r.s ∧ r.get 5 = r.h ∧ r.get 6 = r.t ∧ r.get 7 = r.i) ∧
    (∀ f : BitPos, r.toByte.getLsbD f = r.get f ∧ (Sreg.ofByte v).get f = v.getLsbD f) ∧
    Sreg.ofByte r.toByte = r

/-- MemRead (20_memory.md R52); the device clause is R56 in the form of notes/assumptions/4.md. -/
def Obligations.MemReadMap : Prop :=
  ∀ (a : Word) (s : State),
    match memRead a s with
    | .ok (v, u) => DataRead a s v u
    | .error f => 0x8FF < a.toNat ∧ f = .unmappedData a .read

/-- MemWrite (20_memory.md R53); what a device write leaves pending is notes/assumptions/5.md, read from R56 and
60_exceptions.md R313. -/
def Obligations.MemWriteMap : Prop :=
  ∀ (a : Word) (v : Byte) (s : State),
    match memWrite a v s with
    | .ok u => DataWrite a v s u
    | .error f => 0x8FF < a.toNat ∧ f = .unmappedData a .write

/-- Pop8 is the inverse of Push8 (42_data_transfer.md R212). -/
def Obligations.PopAfterPush : Prop :=
  ∀ (s : State) (r d : Reg), s.stackRoom 1 →
    ∃ t u, exec (.push r) s = .next t ∧ exec (.pop d) t = .next u ∧
      u.reg d = s.reg r ∧ u.stackPtr = s.stackPtr ∧ u.sreg = s.sreg ∧ ∀ i, i ≠ d → u.reg i = s.reg i

/-- PopPC is the exact inverse of PushPC (41_branch.md R162). -/
def Obligations.ReturnAfterCall : Prop :=
  ∀ (s : State) (i : Instr) (ret : ProgAddr), s.stackRoom 2 →
    ((∃ k, i = .rcall k) ∧ ret = s.pc + 1 ∨ i = .icall ∧ ret = s.pc + 1 ∨ (∃ k, i = .call k) ∧ ret = s.pc + 2) →
    ∃ t u w, exec i s = .next t ∧ exec .ret t = .next u ∧ exec .reti t = .next w ∧
      u.pc = ret ∧ u.stackPtr = s.stackPtr ∧ u.regs = s.regs ∧ u.sreg = s.sreg ∧
      w.pc = ret ∧ w.stackPtr = s.stackPtr ∧ w.regs = s.regs ∧ w.sreg = { s.sreg with i := true } ∧ w.inhibit = true

/-- The Flags column of all 131 rows (95_test_vectors.md section 1). -/
def Obligations.FlagFrame : Prop :=
  ∀ (i : Instr) (s t : State), exec i s = .next t → 0x5F ∉ storedAddrs i s →
    ∀ f, f ∉ flagsListed i → t.sreg.get f = s.sreg.get f

/-- The register frame of every instruction. -/
def Obligations.RegisterFrame : Prop :=
  ∀ (i : Instr) (s t : State), exec i s = .next t →
    ∀ r : Reg, r ∉ destinations i → BitVec.ofNat 16 r.val ∉ storedAddrs i s → t.reg r = s.reg r

/-- The memory frame of every instruction; the addresses are computed as the meanings compute them. -/
def Obligations.MemoryFrame : Prop :=
  ∀ (i : Instr) (s t : State), exec i s = .next t →
    (∀ a, a ∉ storedAddrs i s → t.sramByte a = s.sramByte a) ∧ ∀ w, t.progWord w = s.progWord w

/-- The frame of SP and of the indirect state (10_state.md R29, R35); what device accesses do is notes/assumptions/4.md
and 5.md. -/
def Obligations.SystemFrame : Prop :=
  ∀ (i : Instr) (s t : State), exec i s = .next t →
    (movesSp i = false → 0x5D ∉ storedAddrs i s → 0x5E ∉ storedAddrs i s → t.sp = s.sp) ∧
    (i ≠ .sleep → t.sleeping = s.sleeping) ∧
    ((∀ a ∈ storedAddrs i s, a.toNat < 0x20 ∨ 0xFF < a.toNat) → t.pending = s.pending) ∧
    (∃ l, t.dev = l ++ s.dev) ∧
    t.cfg = s.cfg ∧ t.env = s.env ∧ t.powerUp = s.powerUp ∧ t.cycles = s.cycles

/-- Result, flags and frame of the additions (40_arithmetic_logic.md R126, R127; 43_bit_and_bit_test.md R264, R266). -/
def Obligations.AdditionResult : Prop :=
  ∀ (d r : Reg) (s : State),
    IsAddition (.add d r) s d (s.reg d) (s.reg r) false ∧
    IsAddition (.adc d r) s d (s.reg d) (s.reg r) s.sreg.c ∧
    IsAddition (.lsl d) s d (s.reg d) (s.reg d) false ∧
    IsAddition (.rol d) s d (s.reg d) (s.reg d) s.sreg.c

/-- Result, flags and frame of the subtractions (40_arithmetic_logic.md R129 to R132, R140). -/
def Obligations.SubtractionResult : Prop :=
  ∀ (d r : Reg) (k : Byte) (s : State),
    IsSubtraction (.sub d r) s d (s.reg d) (s.reg r) false false ∧
    IsSubtraction (.subi d k) s d (s.reg d) k false false ∧
    IsSubtraction (.sbc d r) s d (s.reg d) (s.reg r) s.sreg.c true ∧
    IsSubtraction (.sbci d k) s d (s.reg d) k s.sreg.c true ∧
    IsSubtraction (.neg d) s d 0x00 (s.reg d) false false

/-- Flags and frame of the comparisons (41_branch.md R174 to R176). -/
def Obligations.ComparisonResult : Prop :=
  ∀ (d r : Reg) (k : Byte) (s : State),
    IsComparison (.cp d r) s (s.reg d) (s.reg r) false false ∧
    IsComparison (.cpc d r) s (s.reg d) (s.reg r) s.sreg.c true ∧
    IsComparison (.cpi d k) s (s.reg d) k false false

/-- Result, flags and frame of the logic instructions (40_arithmetic_logic.md R134 to R139, R141, R142, R145, R146). -/
def Obligations.LogicResult : Prop :=
  ∀ (d r : Reg) (k : Byte) (s : State),
    IsLogic (.and d r) s d (fun j => (s.reg d).getLsbD j && (s.reg r).getLsbD j) s.sreg ∧
    IsLogic (.andi d k) s d (fun j => (s.reg d).getLsbD j && k.getLsbD j) s.sreg ∧
    IsLogic (.or d r) s d (fun j => (s.reg d).getLsbD j || (s.reg r).getLsbD j) s.sreg ∧
    IsLogic (.ori d k) s d (fun j => (s.reg d).getLsbD j || k.getLsbD j) s.sreg ∧
    IsLogic (.eor d r) s d (fun j => (s.reg d).getLsbD j ^^ (s.reg r).getLsbD j) s.sreg ∧
    IsLogic (.com d) s d (fun j => !(s.reg d).getLsbD j) { s.sreg with c := true } ∧
    IsLogic (.sbr d k) s d (fun j => (s.reg d).getLsbD j || k.getLsbD j) s.sreg ∧
    IsLogic (.cbr d k) s d (fun j => (s.reg d).getLsbD j && !k.getLsbD j) s.sreg ∧
    IsLogic (.tst d) s d (fun j => (s.reg d).getLsbD j) s.sreg ∧
    IsLogic (.clr d) s d (fun _ => false) s.sreg

/-- Result, flags and frame of INC and DEC (40_arithmetic_logic.md R143, R144); S is the sign of the exact result. -/
def Obligations.IncDecResult : Prop :=
  ∀ (d : Reg) (s : State),
    (∃ t, exec (.inc d) s = .next t ∧ (t.reg d).toNat = ((s.reg d).toNat + 1) % 256 ∧
      t.sreg = { s.sreg with
        z := decide ((s.reg d).toNat = 255), n := decide (128 ≤ (t.reg d).toNat)
        v := decide ((s.reg d).toNat = 127)
        s := decide (127 < (s.reg d).toNat ∧ (s.reg d).toNat < 255) } ∧
      t.pc = s.pc + 1 ∧ State.RegFrame [d] s t) ∧
    (∃ t, exec (.dec d) s = .next t ∧ (t.reg d).toNat = ((s.reg d).toNat + 255) % 256 ∧
      t.sreg = { s.sreg with
        z := decide ((s.reg d).toNat = 1), n := decide (128 ≤ (t.reg d).toNat)
        v := decide ((s.reg d).toNat = 128)
        s := decide ((s.reg d).toNat = 0 ∨ 128 ≤ (s.reg d).toNat) } ∧
      t.pc = s.pc + 1 ∧ State.RegFrame [d] s t)

/-- Result, flags and frame of the word instructions (40_arithmetic_logic.md R128, R133); S is the sign of the exact
result. -/
def Obligations.WordArithmeticResult : Prop :=
  ∀ (d : Reg) (k : BitVec 6) (s : State),
    (∃ t, exec (.adiw d k) s = .next t ∧ (t.pair d).toNat = ((s.pair d).toNat + k.toNat) % 65536 ∧
      t.sreg = { s.sreg with
        c := decide (65535 < (s.pair d).toNat + k.toNat), z := decide ((t.pair d).toNat = 0)
        n := decide (32768 ≤ (t.pair d).toNat), v := decide (32767 < (s.pair d).toInt + k.toNat)
        s := decide ((s.pair d).toInt + k.toNat < 0) } ∧
      t.pc = s.pc + 1 ∧ State.RegFrame [d, d + 1] s t) ∧
    (∃ t, exec (.sbiw d k) s = .next t ∧ (t.pair d).toNat = (65536 + (s.pair d).toNat - k.toNat) % 65536 ∧
      t.sreg = { s.sreg with
        c := decide ((s.pair d).toNat < k.toNat), z := decide ((t.pair d).toNat = 0)
        n := decide (32768 ≤ (t.pair d).toNat), v := decide ((s.pair d).toInt - k.toNat < -32768)
        s := decide ((s.pair d).toInt - k.toNat < 0) } ∧
      t.pc = s.pc + 1 ∧ State.RegFrame [d, d + 1] s t)

/-- Result, flags and frame of the multiplications (40_arithmetic_logic.md R148 to R153). -/
def Obligations.MultiplyResult : Prop :=
  ∀ (d r : Reg) (s : State),
    let u (x : Reg) : Int := (s.reg x).toNat
    let g (x : Reg) : Int := (s.reg x).toInt
    IsMultiply (.mul d r) s (u d * u r) (u d * u r) ∧
    IsMultiply (.muls d r) s (g d * g r) (g d * g r) ∧
    IsMultiply (.mulsu d r) s (g d * u r) (g d * u r) ∧
    IsMultiply (.fmul d r) s (u d * u r) (2 * (u d * u r)) ∧
    IsMultiply (.fmuls d r) s (g d * g r) (2 * (g d * g r)) ∧
    IsMultiply (.fmulsu d r) s (g d * u r) (2 * (g d * u r))

/-- Result, flags and frame of the right shifts (43_bit_and_bit_test.md R265, R267, R268). -/
def Obligations.ShiftRightResult : Prop :=
  ∀ (d : Reg) (s : State),
    IsShiftRight (.lsr d) s d ((s.reg d).toNat / 2) ∧
    IsShiftRight (.ror d) s d ((s.reg d).toNat / 2 + 128 * s.sreg.c.toNat) ∧
    IsShiftRight (.asr d) s d ((s.reg d).toNat / 2 + 128 * ((s.reg d).toNat / 128))

/-- Result and frame of the moves (42_data_transfer.md R214 to R216, 40_arithmetic_logic.md R147, 43_bit_and_bit_test.md
R269). -/
def Obligations.MoveResult : Prop :=
  ∀ (d r : Reg) (k : Byte) (s : State),
    IsMove (.mov d r) s d (s.reg r).toNat ∧ IsMove (.ldi d k) s d k.toNat ∧ IsMove (.ser d) s d 255 ∧
    IsMove (.swap d) s d ((s.reg d).toNat % 16 * 16 + (s.reg d).toNat / 16) ∧
    ∃ t, exec (.movw d r) s = .next t ∧ t.reg d = s.reg r ∧ t.reg (d + 1) = s.reg (r + 1) ∧
      t.sreg = s.sreg ∧ t.pc = s.pc + 1 ∧ State.RegFrame [d, d + 1] s t

/-- Result and frame of the bit copies (43_bit_and_bit_test.md R270, R271). -/
def Obligations.BitCopyResult : Prop :=
  ∀ (d : Reg) (b : BitPos) (s : State),
    (∃ t, exec (.bst d b) s = .next t ∧ t.sreg = { s.sreg with t := (s.reg d).getLsbD b } ∧
      t.pc = s.pc + 1 ∧ State.RegFrame [] s t) ∧
    (∃ t, exec (.bld d b) s = .next t ∧
      (∀ j < 8, (t.reg d).getLsbD j = if j = b.val then s.sreg.t else (s.reg d).getLsbD j) ∧
      t.sreg = s.sreg ∧ t.pc = s.pc + 1 ∧ State.RegFrame [d] s t)

/-- The flag instructions (43_bit_and_bit_test.md R272 to R289). -/
def Obligations.FlagWriteResult : Prop :=
  ∀ (f : BitPos) (s : State),
    IsFlagWrite (.bset f) s f true ∧ IsFlagWrite (.bclr f) s f false ∧
    IsFlagWrite .sec s 0 true ∧ IsFlagWrite .clc s 0 false ∧
    IsFlagWrite .sez s 1 true ∧ IsFlagWrite .clz s 1 false ∧
    IsFlagWrite .sen s 2 true ∧ IsFlagWrite .cln s 2 false ∧
    IsFlagWrite .sev s 3 true ∧ IsFlagWrite .clv s 3 false ∧
    IsFlagWrite .ses s 4 true ∧ IsFlagWrite .cls s 4 false ∧
    IsFlagWrite .seh s 5 true ∧ IsFlagWrite .clh s 5 false ∧
    IsFlagWrite .setT s 6 true ∧ IsFlagWrite .clt s 6 false ∧
    IsFlagWrite .sei s 7 true ∧ IsFlagWrite .cli s 7 false

/-- The jumps (41_branch.md R165 to R167; 10_state.md R25). -/
def Obligations.JumpResult : Prop :=
  ∀ (k : BitVec 12) (k22 : BitVec 22) (s : State),
    IsJump (.rjmp k) s (s.pc.toNat + 1 + k.toInt) ∧ IsJump .ijmp s (s.ptr .z).toNat ∧ IsJump (.jmp k22) s k22.toNat

/-- The conditional branches (41_branch.md R181 to R200). -/
def Obligations.BranchResult : Prop :=
  ∀ (f : BitPos) (k : BitVec 7) (s : State),
    IsBranch (.brbs f k) s (s.sreg.get f) k ∧ IsBranch (.brbc f k) s (!s.sreg.get f) k ∧
    IsBranch (.breq k) s s.sreg.z k ∧ IsBranch (.brne k) s (!s.sreg.z) k ∧
    IsBranch (.brcs k) s s.sreg.c k ∧ IsBranch (.brcc k) s (!s.sreg.c) k ∧
    IsBranch (.brsh k) s (!s.sreg.c) k ∧ IsBranch (.brlo k) s s.sreg.c k ∧
    IsBranch (.brmi k) s s.sreg.n k ∧ IsBranch (.brpl k) s (!s.sreg.n) k ∧
    IsBranch (.brge k) s (!s.sreg.s) k ∧ IsBranch (.brlt k) s s.sreg.s k ∧
    IsBranch (.brhs k) s s.sreg.h k ∧ IsBranch (.brhc k) s (!s.sreg.h) k ∧
    IsBranch (.brts k) s s.sreg.t k ∧ IsBranch (.brtc k) s (!s.sreg.t) k ∧
    IsBranch (.brvs k) s s.sreg.v k ∧ IsBranch (.brvc k) s (!s.sreg.v) k ∧
    IsBranch (.brie k) s s.sreg.i k ∧ IsBranch (.brid k) s (!s.sreg.i) k

/-- The skips (41_branch.md R163, R173, R177 to R180); the device read is notes/assumptions/4.md and 5.md. -/
def Obligations.SkipResult : Prop :=
  ∀ (d r : Reg) (b : BitPos) (a : BitVec 5) (s : State),
    let port : Word := BitVec.ofNat 16 (0x20 + a.toNat)
    exec (.cpse d r) s = .next { s with pc := skipTarget s (decide (s.reg d = s.reg r)) } ∧
    exec (.sbrc r b) s = .next { s with pc := skipTarget s (!(s.reg r).getLsbD b) } ∧
    exec (.sbrs r b) s = .next { s with pc := skipTarget s ((s.reg r).getLsbD b) } ∧
    exec (.sbic a b) s = .next
      { s with pc := skipTarget s (!(s.deviceByte port).getLsbD b), dev := .read port :: s.dev } ∧
    exec (.sbis a b) s = .next
      { s with pc := skipTarget s ((s.deviceByte port).getLsbD b), dev := .read port :: s.dev }

/-- The calls (41_branch.md R161, R168 to R170), for every value of SP; a push to a device address is
notes/assumptions/5.md. -/
def Obligations.CallResult : Prop :=
  ∀ (k : BitVec 12) (k22 : BitVec 22) (s : State),
    IsCall (.rcall k) s (s.pc + 1 + k.signExtend 14) (s.pc + 1) ∧
    IsCall .icall s (BitVec.ofNat 14 (s.ptr .z).toNat) (s.pc + 1) ∧
    IsCall (.call k22) s (BitVec.ofNat 14 k22.toNat) (s.pc + 2)

/-- The returns (41_branch.md R162, R171, R172; 60_exceptions.md R318), for every value of SP; a pop from a device
address is notes/assumptions/4.md. -/
def Obligations.ReturnResult : Prop :=
  ∀ s : State,
    IsReturn .ret s (fun a w => w.setPc a) ∧
    IsReturn .reti s (fun a w => { w with pc := a, sreg := { w.sreg with i := true }, inhibit := true })

/-- The loads without pointer update (42_data_transfer.md R217, R220, R223, R224, R227, R228, R245); device addresses:
notes/assumptions/4.md and 5.md. -/
def Obligations.LoadResult : Prop :=
  ∀ (d : Reg) (q : BitVec 6) (k : Word) (a : BitVec 6) (s : State),
    IsLoad (.ldX d) s d (s.ptr .x) 1 ∧ IsLoad (.ldY d) s d (s.ptr .y) 1 ∧ IsLoad (.ldZ d) s d (s.ptr .z) 1 ∧
    IsLoad (.lddY d q) s d (BitVec.ofNat 16 ((s.ptr .y).toNat + q.toNat)) 1 ∧
    IsLoad (.lddZ d q) s d (BitVec.ofNat 16 ((s.ptr .z).toNat + q.toNat)) 1 ∧
    IsLoad (.lds d k) s d k 2 ∧ IsLoad (.inp d a) s d (BitVec.ofNat 16 (0x20 + a.toNat)) 1

/-- The loads with pointer update (42_data_transfer.md R213, R218, R219, R221, R222, R225, R226); device addresses:
notes/assumptions/4.md and 5.md. -/
def Obligations.LoadUpdateResult : Prop :=
  ∀ (d : Reg) (s : State),
    IsLoadPostInc (.ldXInc d) "LD X+" s d .x ∧ IsLoadPreDec (.ldXDec d) "LD -X" s d .x ∧
    IsLoadPostInc (.ldYInc d) "LD Y+" s d .y ∧ IsLoadPreDec (.ldYDec d) "LD -Y" s d .y ∧
    IsLoadPostInc (.ldZInc d) "LD Z+" s d .z ∧ IsLoadPreDec (.ldZDec d) "LD -Z" s d .z

/-- The stores without pointer update (42_data_transfer.md R229, R232, R235, R236, R239, R240, R246); device addresses:
notes/assumptions/4.md and 5.md. -/
def Obligations.StoreResult : Prop :=
  ∀ (r : Reg) (q : BitVec 6) (k : Word) (a : BitVec 6) (s : State),
    IsStore (.stX r) s (s.ptr .x) (s.reg r) 1 ∧ IsStore (.stY r) s (s.ptr .y) (s.reg r) 1 ∧
    IsStore (.stZ r) s (s.ptr .z) (s.reg r) 1 ∧
    IsStore (.stdY q r) s (BitVec.ofNat 16 ((s.ptr .y).toNat + q.toNat)) (s.reg r) 1 ∧
    IsStore (.stdZ q r) s (BitVec.ofNat 16 ((s.ptr .z).toNat + q.toNat)) (s.reg r) 1 ∧
    IsStore (.sts k r) s k (s.reg r) 2 ∧ IsStore (.out a r) s (BitVec.ofNat 16 (0x20 + a.toNat)) (s.reg r) 1

/-- The stores with pointer update (42_data_transfer.md R213, R230, R231, R233, R234, R237, R238); device addresses:
notes/assumptions/4.md and 5.md. -/
def Obligations.StoreUpdateResult : Prop :=
  ∀ (r : Reg) (s : State),
    IsStorePostInc (.stXInc r) "ST X+" s r .x ∧ IsStorePreDec (.stXDec r) "ST -X" s r .x ∧
    IsStorePostInc (.stYInc r) "ST Y+" s r .y ∧ IsStorePreDec (.stYDec r) "ST -Y" s r .y ∧
    IsStorePostInc (.stZInc r) "ST Z+" s r .z ∧ IsStorePreDec (.stZDec r) "ST -Z" s r .z

/-- The program-memory loads (42_data_transfer.md R241 to R243, 20_memory.md R59). -/
def Obligations.ProgramLoadResult : Prop :=
  ∀ (d : Reg) (s : State),
    let z := (s.ptr .z).toNat
    let word := (s.progWord (BitVec.ofNat 14 (z / 2))).toNat
    let byte := if z % 2 = 0 then word % 256 else word / 256
    (z ≤ 0x7FFF →
      IsMove .lpm s 0 byte ∧ IsMove (.lpmZ d) s d byte ∧
      (d ≠ 30 → d ≠ 31 → ∃ t, exec (.lpmZInc d) s = .next t ∧ (t.reg d).toNat = byte ∧
        (t.ptr .z).toNat = (z + 1) % 65536 ∧ t.sreg = s.sreg ∧ t.pc = s.pc + 1 ∧
        State.RegFrame [d, 30, 31] s t)) ∧
    (0x7FFF < z →
      exec .lpm s = .fault (.unmappedProgram (s.ptr .z)) ∧ exec (.lpmZ d) s = .fault (.unmappedProgram (s.ptr .z)) ∧
      (d ≠ 30 → d ≠ 31 → exec (.lpmZInc d) s = .fault (.unmappedProgram (s.ptr .z)))) ∧
    (d = 30 ∨ d = 31 → exec (.lpmZInc d) s = .fault (.undefinedOperand "LPM Rd,Z+" d))

/-- Unsupported(SPM), always (42_data_transfer.md R244). -/
def Obligations.SpmStops : Prop :=
  ∀ s : State, exec .spm s = .fault .unsupportedSpm

/-- PUSH and POP (42_data_transfer.md R211, R212, R247, R248), for every value of SP; on a device address
notes/assumptions/4.md and 5.md. -/
def Obligations.PushPopResult : Prop :=
  ∀ (r d : Reg) (s : State),
    (if s.stackPtr.toNat ≤ 0x8FF then ∃ u, Pushed (s.reg r) s u ∧ exec (.push r) s = .next (u.setPc (s.pc + 1))
      else exec (.push r) s = .fault (.unmappedData s.stackPtr .write)) ∧
    (if s.popAddr.toNat ≤ 0x8FF then
        ∃ v u, Popped s v u ∧ exec (.pop d) s = .next ((u.setReg d v).setPc (s.pc + 1))
      else exec (.pop d) s = .fault (.unmappedData s.popAddr .read))

/-- SBI and CBI as read-modify-write (43_bit_and_bit_test.md R262, R263); the device is notes/assumptions/4.md and 5.md.
-/
def Obligations.PortBitResult : Prop :=
  ∀ (a : BitVec 5) (b : BitPos) (s : State),
    let port : Word := BitVec.ofNat 16 (0x20 + a.toNat)
    ∀ x : Bool, ∃ (v : Byte) (w : State),
      (∀ j < 8, v.getLsbD j = if j = b.val then x else (s.deviceByte port).getLsbD j) ∧
      DataWrite port v { s with dev := .read port :: s.dev } w ∧
      exec (if x then .sbi a b else .cbi a b) s = .next (w.setPc (s.pc + 1))

/-- MCU control (44_mcu_control.md R300 to R303). The MODEL's choice: looking at SMCR bit 0 leaves the devices' history
as it was (notes/assumptions/8.md). -/
def Obligations.ControlResult : Prop :=
  ∀ s : State,
    exec .nop s = .next { s with pc := s.pc + 1 } ∧
    exec .wdr s = .next { s with pc := s.pc + 1, dev := .wdr :: s.dev } ∧
    (s.cfg.ocdEnabled = false → exec .brk s = .next { s with pc := s.pc + 1 }) ∧
    (s.cfg.ocdEnabled = true → exec .brk s = .fault .unsupportedBreak) ∧
    ((s.cfg.sleepEnable = .always ∨ s.cfg.sleepEnable = .smcr ∧ (s.deviceByte 0x53).getLsbD 0 = true) →
      exec .sleep s = .next { s with pc := s.pc + 1, sleeping := true }) ∧
    ((s.cfg.sleepEnable = .never ∨ s.cfg.sleepEnable = .smcr ∧ (s.deviceByte 0x53).getLsbD 0 = false) →
      exec .sleep s = .next { s with pc := s.pc + 1 })

/-- The CPU idles; only EnvStep makes progress (60_exceptions.md R340). The next state answered is log 29, the clock
count the MODEL's choice (log 21). -/
def Obligations.SleepingIdle : Prop :=
  ∀ s : State,
    let u := envStep s
    u.sleeping = true → (u.sreg.i = false ∨ u.inhibit = true ∨ ∀ n, 1 ≤ n → n ≤ 25 → u.pending.getLsbD n = false) →
    step s = .next { u with inhibit := false }
end

