-- ==== Sys2Proof/Laws/Config.lean ====
section
/-!
SUPPORT. The parameters of 00_scope.md R5 in every configuration: their values, as simp lemmas; the types that are as wide
as they say; and the instructions and words that the HAS rows speak of.
-/

namespace Sys2Proof

variable (c : Config)

namespace Config

/-- A configuration's parameters are those of the one part there is. -/
theorem hw_eq : c.hw = Part.hardware .atmega328 := rfl

@[simp] theorem hw_regCount : c.hw.regCount = 32 := rfl
@[simp] theorem hw_regBits : c.hw.regBits = 8 := rfl
@[simp] theorem hw_pcBits : c.hw.pcBits = 14 := rfl
@[simp] theorem hw_flashWords : c.hw.flashWords = 16384 := rfl
@[simp] theorem hw_flashEnd : c.hw.flashEnd = 0x3FFF := rfl
@[simp] theorem hw_regFileStart : c.hw.regFileStart = 0x0000 := rfl
@[simp] theorem hw_regFileEnd : c.hw.regFileEnd = 0x001F := rfl
@[simp] theorem hw_ioStart : c.hw.ioStart = 0x0020 := rfl
@[simp] theorem hw_ioEnd : c.hw.ioEnd = 0x005F := rfl
@[simp] theorem hw_extIoStart : c.hw.extIoStart = 0x0060 := rfl
@[simp] theorem hw_extIoEnd : c.hw.extIoEnd = 0x00FF := rfl
@[simp] theorem hw_sramStart : c.hw.sramStart = 0x0100 := rfl
@[simp] theorem hw_ramEnd : c.hw.ramEnd = 0x08FF := rfl
@[simp] theorem hw_ioOffset : c.hw.ioOffset = 0x20 := rfl
@[simp] theorem hw_sregIo : c.hw.sregIo = 0x3F := rfl
@[simp] theorem hw_splIo : c.hw.splIo = 0x3D := rfl
@[simp] theorem hw_sphIo : c.hw.sphIo = 0x3E := rfl
@[simp] theorem hw_retAddrBytes : c.hw.retAddrBytes = 2 := rfl
@[simp] theorem hw_hasMul : c.hw.hasMul = true := rfl
@[simp] theorem hw_hasJmpCall : c.hw.hasJmpCall = true := rfl
@[simp] theorem hw_hasMovw : c.hw.hasMovw = true := rfl
@[simp] theorem hw_hasLpmRd : c.hw.hasLpmRd = true := rfl
@[simp] theorem hw_hasElpm : c.hw.hasElpm = false := rfl
@[simp] theorem hw_hasEijmp : c.hw.hasEijmp = false := rfl
@[simp] theorem hw_hasDes : c.hw.hasDes = false := rfl
@[simp] theorem hw_hasXchLax : c.hw.hasXchLax = false := rfl
@[simp] theorem hw_hasRamp : c.hw.hasRamp = false := rfl
@[simp] theorem hw_hasEind : c.hw.hasEind = false := rfl
@[simp] theorem hw_vectorCount : c.hw.vectorCount = 26 := rfl
@[simp] theorem hw_vectorWords : c.hw.vectorWords = 2 := rfl

@[simp] theorem splAddr_eq : c.splAddr = 0x005D := rfl
@[simp] theorem sphAddr_eq : c.sphAddr = 0x005E := rfl
@[simp] theorem sregAddr_eq : c.sregAddr = 0x005F := rfl

/-! ### The types are as wide as the parameters say -/

theorem reg_type : Reg = Fin c.hw.regCount := rfl
theorem byte_type : Byte = BitVec c.hw.regBits := rfl
theorem progAddr_type : ProgAddr = BitVec c.hw.pcBits := rfl
theorem intSet_type : IntSet = BitVec c.hw.vectorCount := rfl

/-- The program counter reaches every word of program memory and no other. -/
theorem flashWords_eq : c.hw.flashWords = 2 ^ c.hw.pcBits ∧ c.hw.flashEnd + 1 = c.hw.flashWords := by
  simp only [hw_flashWords, hw_pcBits, hw_flashEnd]
  decide

/-- The sizes of the data map's ranges: 32 registers, 64 I/O registers, 160 of extended I/O, 2,048 bytes of SRAM. -/
theorem data_map_sizes :
    c.hw.regFileEnd + 1 - c.hw.regFileStart = c.hw.regCount ∧ c.hw.ioEnd + 1 - c.hw.ioStart = 64 ∧
    c.hw.extIoEnd + 1 - c.hw.extIoStart = 160 ∧ c.hw.ramEnd + 1 - c.hw.sramStart = 2048 ∧
    c.hw.ioOffset = c.hw.ioStart := by
  simp only [hw_regFileStart, hw_regFileEnd, hw_regCount, hw_ioStart, hw_ioEnd, hw_extIoStart, hw_extIoEnd, hw_sramStart,
    hw_ramEnd, hw_ioOffset]
  decide

/-- The requests are the vectors but 0. -/
theorem requestMask_getLsbD (n : Nat) : requestMask.getLsbD n = decide (1 ≤ n ∧ n < c.hw.vectorCount) := by
  by_cases h : n < 26
  · interval_cases n <;> rfl
  · simp [BitVec.getLsbD_of_ge _ _ (Nat.le_of_not_lt h), h]

/-! ### The HAS rows -/

/-- The part provides every instruction of the table. -/
@[simp] theorem provides_eq_true (i : Instr) : c.hw.provides i = true := by cases i <;> rfl

/-- Words of ELPM, EIJMP and EICALL, DES, and XCH, LAS, LAC, LAT: absent, so reserved (00_scope.md R4, R5; 30_encoding.md
R106). -/
theorem absent_words_reserved :
    (c.hw.hasElpm = ([0x95D8, 0x9006, 0x9007].any fun w => (decodeWords w 0).isSome)) ∧
    (c.hw.hasEijmp = ([0x9419, 0x9519].any fun w => (decodeWords w 0).isSome)) ∧
    (c.hw.hasDes = ([0x940B, 0x94FB].any fun w => (decodeWords w 0).isSome)) ∧
    (c.hw.hasXchLax = ([0x9204, 0x9205, 0x9206, 0x9207].any fun w => (decodeWords w 0).isSome)) := by
  simp only [hw_hasElpm, hw_hasEijmp, hw_hasDes, hw_hasXchLax]
  decide

end Config

end Sys2Proof
end

