-- ==== Sys2Proof/Laws/State.lean ====
section
/-!
SUPPORT. One lemma per field per update of the state, true by `rfl`, so that no later proof unfolds a record update; and
registers and bytes read after an update.
-/

namespace Sys2Proof.Machine.State

variable (s : State)

/-! `setReg` -/

@[simp] theorem setReg_regs (i : Reg) (v : Byte) : (s.setReg i v).regs = s.regs.set i.val v := rfl
@[simp] theorem setReg_pc (i : Reg) (v : Byte) : (s.setReg i v).pc = s.pc := rfl
@[simp] theorem setReg_sreg (i : Reg) (v : Byte) : (s.setReg i v).sreg = s.sreg := rfl
@[simp] theorem setReg_sp (i : Reg) (v : Byte) : (s.setReg i v).sp = s.sp := rfl
@[simp] theorem setReg_sram (i : Reg) (v : Byte) : (s.setReg i v).sram = s.sram := rfl
@[simp] theorem setReg_flash (i : Reg) (v : Byte) : (s.setReg i v).flash = s.flash := rfl
@[simp] theorem setReg_dev (i : Reg) (v : Byte) : (s.setReg i v).dev = s.dev := rfl
@[simp] theorem setReg_pending (i : Reg) (v : Byte) : (s.setReg i v).pending = s.pending := rfl
@[simp] theorem setReg_inhibit (i : Reg) (v : Byte) : (s.setReg i v).inhibit = s.inhibit := rfl
@[simp] theorem setReg_sleeping (i : Reg) (v : Byte) : (s.setReg i v).sleeping = s.sleeping := rfl
@[simp] theorem setReg_cfg (i : Reg) (v : Byte) : (s.setReg i v).cfg = s.cfg := rfl
@[simp] theorem setReg_env (i : Reg) (v : Byte) : (s.setReg i v).env = s.env := rfl
@[simp] theorem setReg_powerUp (i : Reg) (v : Byte) : (s.setReg i v).powerUp = s.powerUp := rfl
@[simp] theorem setReg_cycles (i : Reg) (v : Byte) : (s.setReg i v).cycles = s.cycles := rfl
@[simp] theorem setReg_trimSp (i : Reg) (v : Byte) (c : Word) : (s.setReg i v).trimSp c = s.trimSp c := rfl
@[simp] theorem setReg_stackPtr (i : Reg) (v : Byte) : (s.setReg i v).stackPtr = s.stackPtr := rfl
@[simp] theorem setReg_sramByte (i : Reg) (v : Byte) (c : Word) : (s.setReg i v).sramByte c = s.sramByte c := rfl
@[simp] theorem setReg_progByte (i : Reg) (v : Byte) (c : BitVec 15) : (s.setReg i v).progByte c = s.progByte c := rfl
@[simp] theorem setReg_progWord (i : Reg) (v : Byte) (c : ProgAddr) : (s.setReg i v).progWord c = s.progWord c := rfl
@[simp] theorem setReg_deviceByte (i : Reg) (v : Byte) (c : Word) : (s.setReg i v).deviceByte c = s.deviceByte c := rfl

/-! `setPair` -/

@[simp] theorem setPair_regs (d : Reg) (v : Word) : (s.setPair d v).regs = (s.regs.set d.val (lowByte v)).set (d + 1).val (highByte v) := rfl
@[simp] theorem setPair_pc (d : Reg) (v : Word) : (s.setPair d v).pc = s.pc := rfl
@[simp] theorem setPair_sreg (d : Reg) (v : Word) : (s.setPair d v).sreg = s.sreg := rfl
@[simp] theorem setPair_sp (d : Reg) (v : Word) : (s.setPair d v).sp = s.sp := rfl
@[simp] theorem setPair_sram (d : Reg) (v : Word) : (s.setPair d v).sram = s.sram := rfl
@[simp] theorem setPair_flash (d : Reg) (v : Word) : (s.setPair d v).flash = s.flash := rfl
@[simp] theorem setPair_dev (d : Reg) (v : Word) : (s.setPair d v).dev = s.dev := rfl
@[simp] theorem setPair_pending (d : Reg) (v : Word) : (s.setPair d v).pending = s.pending := rfl
@[simp] theorem setPair_inhibit (d : Reg) (v : Word) : (s.setPair d v).inhibit = s.inhibit := rfl
@[simp] theorem setPair_sleeping (d : Reg) (v : Word) : (s.setPair d v).sleeping = s.sleeping := rfl
@[simp] theorem setPair_cfg (d : Reg) (v : Word) : (s.setPair d v).cfg = s.cfg := rfl
@[simp] theorem setPair_env (d : Reg) (v : Word) : (s.setPair d v).env = s.env := rfl
@[simp] theorem setPair_powerUp (d : Reg) (v : Word) : (s.setPair d v).powerUp = s.powerUp := rfl
@[simp] theorem setPair_cycles (d : Reg) (v : Word) : (s.setPair d v).cycles = s.cycles := rfl
@[simp] theorem setPair_trimSp (d : Reg) (v : Word) (c : Word) : (s.setPair d v).trimSp c = s.trimSp c := rfl
@[simp] theorem setPair_stackPtr (d : Reg) (v : Word) : (s.setPair d v).stackPtr = s.stackPtr := rfl
@[simp] theorem setPair_sramByte (d : Reg) (v : Word) (c : Word) : (s.setPair d v).sramByte c = s.sramByte c := rfl
@[simp] theorem setPair_progByte (d : Reg) (v : Word) (c : BitVec 15) : (s.setPair d v).progByte c = s.progByte c := rfl
@[simp] theorem setPair_progWord (d : Reg) (v : Word) (c : ProgAddr) : (s.setPair d v).progWord c = s.progWord c := rfl
@[simp] theorem setPair_deviceByte (d : Reg) (v : Word) (c : Word) : (s.setPair d v).deviceByte c = s.deviceByte c := rfl

/-! `setPtr` -/

@[simp] theorem setPtr_regs (p : Pointer) (v : Word) : (s.setPtr p v).regs = (s.setPair p.low v).regs := rfl
@[simp] theorem setPtr_pc (p : Pointer) (v : Word) : (s.setPtr p v).pc = s.pc := rfl
@[simp] theorem setPtr_sreg (p : Pointer) (v : Word) : (s.setPtr p v).sreg = s.sreg := rfl
@[simp] theorem setPtr_sp (p : Pointer) (v : Word) : (s.setPtr p v).sp = s.sp := rfl
@[simp] theorem setPtr_sram (p : Pointer) (v : Word) : (s.setPtr p v).sram = s.sram := rfl
@[simp] theorem setPtr_flash (p : Pointer) (v : Word) : (s.setPtr p v).flash = s.flash := rfl
@[simp] theorem setPtr_dev (p : Pointer) (v : Word) : (s.setPtr p v).dev = s.dev := rfl
@[simp] theorem setPtr_pending (p : Pointer) (v : Word) : (s.setPtr p v).pending = s.pending := rfl
@[simp] theorem setPtr_inhibit (p : Pointer) (v : Word) : (s.setPtr p v).inhibit = s.inhibit := rfl
@[simp] theorem setPtr_sleeping (p : Pointer) (v : Word) : (s.setPtr p v).sleeping = s.sleeping := rfl
@[simp] theorem setPtr_cfg (p : Pointer) (v : Word) : (s.setPtr p v).cfg = s.cfg := rfl
@[simp] theorem setPtr_env (p : Pointer) (v : Word) : (s.setPtr p v).env = s.env := rfl
@[simp] theorem setPtr_powerUp (p : Pointer) (v : Word) : (s.setPtr p v).powerUp = s.powerUp := rfl
@[simp] theorem setPtr_cycles (p : Pointer) (v : Word) : (s.setPtr p v).cycles = s.cycles := rfl
@[simp] theorem setPtr_trimSp (p : Pointer) (v : Word) (c : Word) : (s.setPtr p v).trimSp c = s.trimSp c := rfl
@[simp] theorem setPtr_stackPtr (p : Pointer) (v : Word) : (s.setPtr p v).stackPtr = s.stackPtr := rfl
@[simp] theorem setPtr_sramByte (p : Pointer) (v : Word) (c : Word) : (s.setPtr p v).sramByte c = s.sramByte c := rfl
@[simp] theorem setPtr_progByte (p : Pointer) (v : Word) (c : BitVec 15) : (s.setPtr p v).progByte c = s.progByte c := rfl
@[simp] theorem setPtr_progWord (p : Pointer) (v : Word) (c : ProgAddr) : (s.setPtr p v).progWord c = s.progWord c := rfl
@[simp] theorem setPtr_deviceByte (p : Pointer) (v : Word) (c : Word) : (s.setPtr p v).deviceByte c = s.deviceByte c := rfl

/-! `setSreg` -/

@[simp] theorem setSreg_regs (r : Sreg) : (s.setSreg r).regs = s.regs := rfl
@[simp] theorem setSreg_pc (r : Sreg) : (s.setSreg r).pc = s.pc := rfl
@[simp] theorem setSreg_sreg (r : Sreg) : (s.setSreg r).sreg = r := rfl
@[simp] theorem setSreg_sp (r : Sreg) : (s.setSreg r).sp = s.sp := rfl
@[simp] theorem setSreg_sram (r : Sreg) : (s.setSreg r).sram = s.sram := rfl
@[simp] theorem setSreg_flash (r : Sreg) : (s.setSreg r).flash = s.flash := rfl
@[simp] theorem setSreg_dev (r : Sreg) : (s.setSreg r).dev = s.dev := rfl
@[simp] theorem setSreg_pending (r : Sreg) : (s.setSreg r).pending = s.pending := rfl
@[simp] theorem setSreg_inhibit (r : Sreg) : (s.setSreg r).inhibit = s.inhibit := rfl
@[simp] theorem setSreg_sleeping (r : Sreg) : (s.setSreg r).sleeping = s.sleeping := rfl
@[simp] theorem setSreg_cfg (r : Sreg) : (s.setSreg r).cfg = s.cfg := rfl
@[simp] theorem setSreg_env (r : Sreg) : (s.setSreg r).env = s.env := rfl
@[simp] theorem setSreg_powerUp (r : Sreg) : (s.setSreg r).powerUp = s.powerUp := rfl
@[simp] theorem setSreg_cycles (r : Sreg) : (s.setSreg r).cycles = s.cycles := rfl
@[simp] theorem setSreg_trimSp (r : Sreg) (c : Word) : (s.setSreg r).trimSp c = s.trimSp c := rfl
@[simp] theorem setSreg_stackPtr (r : Sreg) : (s.setSreg r).stackPtr = s.stackPtr := rfl
@[simp] theorem setSreg_reg (r : Sreg) (i : Reg) : (s.setSreg r).reg i = s.reg i := rfl
@[simp] theorem setSreg_pair (r : Sreg) (i : Reg) : (s.setSreg r).pair i = s.pair i := rfl
@[simp] theorem setSreg_sramByte (r : Sreg) (c : Word) : (s.setSreg r).sramByte c = s.sramByte c := rfl
@[simp] theorem setSreg_progByte (r : Sreg) (c : BitVec 15) : (s.setSreg r).progByte c = s.progByte c := rfl
@[simp] theorem setSreg_progWord (r : Sreg) (c : ProgAddr) : (s.setSreg r).progWord c = s.progWord c := rfl
@[simp] theorem setSreg_deviceByte (r : Sreg) (c : Word) : (s.setSreg r).deviceByte c = s.deviceByte c := rfl

/-! `writeSreg` -/

@[simp] theorem writeSreg_regs (r : Sreg) : (s.writeSreg r).regs = s.regs := rfl
@[simp] theorem writeSreg_pc (r : Sreg) : (s.writeSreg r).pc = s.pc := rfl
@[simp] theorem writeSreg_sreg (r : Sreg) : (s.writeSreg r).sreg = r := rfl
@[simp] theorem writeSreg_sp (r : Sreg) : (s.writeSreg r).sp = s.sp := rfl
@[simp] theorem writeSreg_sram (r : Sreg) : (s.writeSreg r).sram = s.sram := rfl
@[simp] theorem writeSreg_flash (r : Sreg) : (s.writeSreg r).flash = s.flash := rfl
@[simp] theorem writeSreg_dev (r : Sreg) : (s.writeSreg r).dev = s.dev := rfl
@[simp] theorem writeSreg_pending (r : Sreg) : (s.writeSreg r).pending = s.pending := rfl
@[simp] theorem writeSreg_inhibit (r : Sreg) : (s.writeSreg r).inhibit = (s.inhibit || (!s.sreg.i && r.i)) := rfl
@[simp] theorem writeSreg_sleeping (r : Sreg) : (s.writeSreg r).sleeping = s.sleeping := rfl
@[simp] theorem writeSreg_cfg (r : Sreg) : (s.writeSreg r).cfg = s.cfg := rfl
@[simp] theorem writeSreg_env (r : Sreg) : (s.writeSreg r).env = s.env := rfl
@[simp] theorem writeSreg_powerUp (r : Sreg) : (s.writeSreg r).powerUp = s.powerUp := rfl
@[simp] theorem writeSreg_cycles (r : Sreg) : (s.writeSreg r).cycles = s.cycles := rfl
@[simp] theorem writeSreg_trimSp (r : Sreg) (c : Word) : (s.writeSreg r).trimSp c = s.trimSp c := rfl
@[simp] theorem writeSreg_stackPtr (r : Sreg) : (s.writeSreg r).stackPtr = s.stackPtr := rfl
@[simp] theorem writeSreg_reg (r : Sreg) (i : Reg) : (s.writeSreg r).reg i = s.reg i := rfl
@[simp] theorem writeSreg_pair (r : Sreg) (i : Reg) : (s.writeSreg r).pair i = s.pair i := rfl
@[simp] theorem writeSreg_sramByte (r : Sreg) (c : Word) : (s.writeSreg r).sramByte c = s.sramByte c := rfl
@[simp] theorem writeSreg_progByte (r : Sreg) (c : BitVec 15) : (s.writeSreg r).progByte c = s.progByte c := rfl
@[simp] theorem writeSreg_progWord (r : Sreg) (c : ProgAddr) : (s.writeSreg r).progWord c = s.progWord c := rfl
@[simp] theorem writeSreg_deviceByte (r : Sreg) (c : Word) : (s.writeSreg r).deviceByte c = s.deviceByte c := rfl

/-! `writeFlag` -/

@[simp] theorem writeFlag_regs (f : BitPos) (x : Bool) : (s.writeFlag f x).regs = s.regs := rfl
@[simp] theorem writeFlag_pc (f : BitPos) (x : Bool) : (s.writeFlag f x).pc = s.pc := rfl
@[simp] theorem writeFlag_sreg (f : BitPos) (x : Bool) : (s.writeFlag f x).sreg = s.sreg.set f x := rfl
@[simp] theorem writeFlag_sp (f : BitPos) (x : Bool) : (s.writeFlag f x).sp = s.sp := rfl
@[simp] theorem writeFlag_sram (f : BitPos) (x : Bool) : (s.writeFlag f x).sram = s.sram := rfl
@[simp] theorem writeFlag_flash (f : BitPos) (x : Bool) : (s.writeFlag f x).flash = s.flash := rfl
@[simp] theorem writeFlag_dev (f : BitPos) (x : Bool) : (s.writeFlag f x).dev = s.dev := rfl
@[simp] theorem writeFlag_pending (f : BitPos) (x : Bool) : (s.writeFlag f x).pending = s.pending := rfl
@[simp] theorem writeFlag_inhibit (f : BitPos) (x : Bool) : (s.writeFlag f x).inhibit = (s.inhibit || (!s.sreg.i && (s.sreg.set f x).i)) := rfl
@[simp] theorem writeFlag_sleeping (f : BitPos) (x : Bool) : (s.writeFlag f x).sleeping = s.sleeping := rfl
@[simp] theorem writeFlag_cfg (f : BitPos) (x : Bool) : (s.writeFlag f x).cfg = s.cfg := rfl
@[simp] theorem writeFlag_env (f : BitPos) (x : Bool) : (s.writeFlag f x).env = s.env := rfl
@[simp] theorem writeFlag_powerUp (f : BitPos) (x : Bool) : (s.writeFlag f x).powerUp = s.powerUp := rfl
@[simp] theorem writeFlag_cycles (f : BitPos) (x : Bool) : (s.writeFlag f x).cycles = s.cycles := rfl
@[simp] theorem writeFlag_trimSp (f : BitPos) (x : Bool) (c : Word) : (s.writeFlag f x).trimSp c = s.trimSp c := rfl
@[simp] theorem writeFlag_stackPtr (f : BitPos) (x : Bool) : (s.writeFlag f x).stackPtr = s.stackPtr := rfl
@[simp] theorem writeFlag_reg (f : BitPos) (x : Bool) (i : Reg) : (s.writeFlag f x).reg i = s.reg i := rfl
@[simp] theorem writeFlag_pair (f : BitPos) (x : Bool) (i : Reg) : (s.writeFlag f x).pair i = s.pair i := rfl
@[simp] theorem writeFlag_sramByte (f : BitPos) (x : Bool) (c : Word) : (s.writeFlag f x).sramByte c = s.sramByte c := rfl
@[simp] theorem writeFlag_progByte (f : BitPos) (x : Bool) (c : BitVec 15) : (s.writeFlag f x).progByte c = s.progByte c := rfl
@[simp] theorem writeFlag_progWord (f : BitPos) (x : Bool) (c : ProgAddr) : (s.writeFlag f x).progWord c = s.progWord c := rfl
@[simp] theorem writeFlag_deviceByte (f : BitPos) (x : Bool) (c : Word) : (s.writeFlag f x).deviceByte c = s.deviceByte c := rfl

/-! `setPc` -/

@[simp] theorem setPc_regs (a : ProgAddr) : (s.setPc a).regs = s.regs := rfl
@[simp] theorem setPc_pc (a : ProgAddr) : (s.setPc a).pc = a := rfl
@[simp] theorem setPc_sreg (a : ProgAddr) : (s.setPc a).sreg = s.sreg := rfl
@[simp] theorem setPc_sp (a : ProgAddr) : (s.setPc a).sp = s.sp := rfl
@[simp] theorem setPc_sram (a : ProgAddr) : (s.setPc a).sram = s.sram := rfl
@[simp] theorem setPc_flash (a : ProgAddr) : (s.setPc a).flash = s.flash := rfl
@[simp] theorem setPc_dev (a : ProgAddr) : (s.setPc a).dev = s.dev := rfl
@[simp] theorem setPc_pending (a : ProgAddr) : (s.setPc a).pending = s.pending := rfl
@[simp] theorem setPc_inhibit (a : ProgAddr) : (s.setPc a).inhibit = s.inhibit := rfl
@[simp] theorem setPc_sleeping (a : ProgAddr) : (s.setPc a).sleeping = s.sleeping := rfl
@[simp] theorem setPc_cfg (a : ProgAddr) : (s.setPc a).cfg = s.cfg := rfl
@[simp] theorem setPc_env (a : ProgAddr) : (s.setPc a).env = s.env := rfl
@[simp] theorem setPc_powerUp (a : ProgAddr) : (s.setPc a).powerUp = s.powerUp := rfl
@[simp] theorem setPc_cycles (a : ProgAddr) : (s.setPc a).cycles = s.cycles := rfl
@[simp] theorem setPc_trimSp (a : ProgAddr) (c : Word) : (s.setPc a).trimSp c = s.trimSp c := rfl
@[simp] theorem setPc_stackPtr (a : ProgAddr) : (s.setPc a).stackPtr = s.stackPtr := rfl
@[simp] theorem setPc_reg (a : ProgAddr) (i : Reg) : (s.setPc a).reg i = s.reg i := rfl
@[simp] theorem setPc_pair (a : ProgAddr) (i : Reg) : (s.setPc a).pair i = s.pair i := rfl
@[simp] theorem setPc_sramByte (a : ProgAddr) (c : Word) : (s.setPc a).sramByte c = s.sramByte c := rfl
@[simp] theorem setPc_progByte (a : ProgAddr) (c : BitVec 15) : (s.setPc a).progByte c = s.progByte c := rfl
@[simp] theorem setPc_progWord (a : ProgAddr) (c : ProgAddr) : (s.setPc a).progWord c = s.progWord c := rfl
@[simp] theorem setPc_deviceByte (a : ProgAddr) (c : Word) : (s.setPc a).deviceByte c = s.deviceByte c := rfl

/-! `advance` -/

@[simp] theorem advance_regs (n : ProgAddr) : (s.advance n).regs = s.regs := rfl
@[simp] theorem advance_pc (n : ProgAddr) : (s.advance n).pc = s.pc + n := rfl
@[simp] theorem advance_sreg (n : ProgAddr) : (s.advance n).sreg = s.sreg := rfl
@[simp] theorem advance_sp (n : ProgAddr) : (s.advance n).sp = s.sp := rfl
@[simp] theorem advance_sram (n : ProgAddr) : (s.advance n).sram = s.sram := rfl
@[simp] theorem advance_flash (n : ProgAddr) : (s.advance n).flash = s.flash := rfl
@[simp] theorem advance_dev (n : ProgAddr) : (s.advance n).dev = s.dev := rfl
@[simp] theorem advance_pending (n : ProgAddr) : (s.advance n).pending = s.pending := rfl
@[simp] theorem advance_inhibit (n : ProgAddr) : (s.advance n).inhibit = s.inhibit := rfl
@[simp] theorem advance_sleeping (n : ProgAddr) : (s.advance n).sleeping = s.sleeping := rfl
@[simp] theorem advance_cfg (n : ProgAddr) : (s.advance n).cfg = s.cfg := rfl
@[simp] theorem advance_env (n : ProgAddr) : (s.advance n).env = s.env := rfl
@[simp] theorem advance_powerUp (n : ProgAddr) : (s.advance n).powerUp = s.powerUp := rfl
@[simp] theorem advance_cycles (n : ProgAddr) : (s.advance n).cycles = s.cycles := rfl
@[simp] theorem advance_trimSp (n : ProgAddr) (c : Word) : (s.advance n).trimSp c = s.trimSp c := rfl
@[simp] theorem advance_stackPtr (n : ProgAddr) : (s.advance n).stackPtr = s.stackPtr := rfl
@[simp] theorem advance_reg (n : ProgAddr) (i : Reg) : (s.advance n).reg i = s.reg i := rfl
@[simp] theorem advance_pair (n : ProgAddr) (i : Reg) : (s.advance n).pair i = s.pair i := rfl
@[simp] theorem advance_sramByte (n : ProgAddr) (c : Word) : (s.advance n).sramByte c = s.sramByte c := rfl
@[simp] theorem advance_progByte (n : ProgAddr) (c : BitVec 15) : (s.advance n).progByte c = s.progByte c := rfl
@[simp] theorem advance_progWord (n : ProgAddr) (c : ProgAddr) : (s.advance n).progWord c = s.progWord c := rfl
@[simp] theorem advance_deviceByte (n : ProgAddr) (c : Word) : (s.advance n).deviceByte c = s.deviceByte c := rfl

/-! `setSp` -/

@[simp] theorem setSp_regs (a : Word) : (s.setSp a).regs = s.regs := rfl
@[simp] theorem setSp_pc (a : Word) : (s.setSp a).pc = s.pc := rfl
@[simp] theorem setSp_sreg (a : Word) : (s.setSp a).sreg = s.sreg := rfl
@[simp] theorem setSp_sp (a : Word) : (s.setSp a).sp = s.trimSp a := rfl
@[simp] theorem setSp_sram (a : Word) : (s.setSp a).sram = s.sram := rfl
@[simp] theorem setSp_flash (a : Word) : (s.setSp a).flash = s.flash := rfl
@[simp] theorem setSp_dev (a : Word) : (s.setSp a).dev = s.dev := rfl
@[simp] theorem setSp_pending (a : Word) : (s.setSp a).pending = s.pending := rfl
@[simp] theorem setSp_inhibit (a : Word) : (s.setSp a).inhibit = s.inhibit := rfl
@[simp] theorem setSp_sleeping (a : Word) : (s.setSp a).sleeping = s.sleeping := rfl
@[simp] theorem setSp_cfg (a : Word) : (s.setSp a).cfg = s.cfg := rfl
@[simp] theorem setSp_env (a : Word) : (s.setSp a).env = s.env := rfl
@[simp] theorem setSp_powerUp (a : Word) : (s.setSp a).powerUp = s.powerUp := rfl
@[simp] theorem setSp_cycles (a : Word) : (s.setSp a).cycles = s.cycles := rfl
@[simp] theorem setSp_trimSp (a : Word) (c : Word) : (s.setSp a).trimSp c = s.trimSp c := rfl
@[simp] theorem setSp_reg (a : Word) (i : Reg) : (s.setSp a).reg i = s.reg i := rfl
@[simp] theorem setSp_pair (a : Word) (i : Reg) : (s.setSp a).pair i = s.pair i := rfl
@[simp] theorem setSp_sramByte (a : Word) (c : Word) : (s.setSp a).sramByte c = s.sramByte c := rfl
@[simp] theorem setSp_progByte (a : Word) (c : BitVec 15) : (s.setSp a).progByte c = s.progByte c := rfl
@[simp] theorem setSp_progWord (a : Word) (c : ProgAddr) : (s.setSp a).progWord c = s.progWord c := rfl
@[simp] theorem setSp_deviceByte (a : Word) (c : Word) : (s.setSp a).deviceByte c = s.deviceByte c := rfl

/-! `inhibitOne` -/

@[simp] theorem inhibitOne_regs : (s.inhibitOne).regs = s.regs := rfl
@[simp] theorem inhibitOne_pc : (s.inhibitOne).pc = s.pc := rfl
@[simp] theorem inhibitOne_sreg : (s.inhibitOne).sreg = s.sreg := rfl
@[simp] theorem inhibitOne_sp : (s.inhibitOne).sp = s.sp := rfl
@[simp] theorem inhibitOne_sram : (s.inhibitOne).sram = s.sram := rfl
@[simp] theorem inhibitOne_flash : (s.inhibitOne).flash = s.flash := rfl
@[simp] theorem inhibitOne_dev : (s.inhibitOne).dev = s.dev := rfl
@[simp] theorem inhibitOne_pending : (s.inhibitOne).pending = s.pending := rfl
@[simp] theorem inhibitOne_inhibit : (s.inhibitOne).inhibit = true := rfl
@[simp] theorem inhibitOne_sleeping : (s.inhibitOne).sleeping = s.sleeping := rfl
@[simp] theorem inhibitOne_cfg : (s.inhibitOne).cfg = s.cfg := rfl
@[simp] theorem inhibitOne_env : (s.inhibitOne).env = s.env := rfl
@[simp] theorem inhibitOne_powerUp : (s.inhibitOne).powerUp = s.powerUp := rfl
@[simp] theorem inhibitOne_cycles : (s.inhibitOne).cycles = s.cycles := rfl
@[simp] theorem inhibitOne_trimSp (c : Word) : (s.inhibitOne).trimSp c = s.trimSp c := rfl
@[simp] theorem inhibitOne_stackPtr : (s.inhibitOne).stackPtr = s.stackPtr := rfl
@[simp] theorem inhibitOne_reg (i : Reg) : (s.inhibitOne).reg i = s.reg i := rfl
@[simp] theorem inhibitOne_pair (i : Reg) : (s.inhibitOne).pair i = s.pair i := rfl
@[simp] theorem inhibitOne_sramByte (c : Word) : (s.inhibitOne).sramByte c = s.sramByte c := rfl
@[simp] theorem inhibitOne_progByte (c : BitVec 15) : (s.inhibitOne).progByte c = s.progByte c := rfl
@[simp] theorem inhibitOne_progWord (c : ProgAddr) : (s.inhibitOne).progWord c = s.progWord c := rfl
@[simp] theorem inhibitOne_deviceByte (c : Word) : (s.inhibitOne).deviceByte c = s.deviceByte c := rfl

/-! `setSramByte` -/

@[simp] theorem setSramByte_regs (a : Word) (v : Byte) : (s.setSramByte a v).regs = s.regs := rfl
@[simp] theorem setSramByte_pc (a : Word) (v : Byte) : (s.setSramByte a v).pc = s.pc := rfl
@[simp] theorem setSramByte_sreg (a : Word) (v : Byte) : (s.setSramByte a v).sreg = s.sreg := rfl
@[simp] theorem setSramByte_sp (a : Word) (v : Byte) : (s.setSramByte a v).sp = s.sp := rfl
@[simp] theorem setSramByte_sram (a : Word) (v : Byte) : (s.setSramByte a v).sram = s.sram.put a.toNat v := rfl
@[simp] theorem setSramByte_flash (a : Word) (v : Byte) : (s.setSramByte a v).flash = s.flash := rfl
@[simp] theorem setSramByte_dev (a : Word) (v : Byte) : (s.setSramByte a v).dev = s.dev := rfl
@[simp] theorem setSramByte_pending (a : Word) (v : Byte) : (s.setSramByte a v).pending = s.pending := rfl
@[simp] theorem setSramByte_inhibit (a : Word) (v : Byte) : (s.setSramByte a v).inhibit = s.inhibit := rfl
@[simp] theorem setSramByte_sleeping (a : Word) (v : Byte) : (s.setSramByte a v).sleeping = s.sleeping := rfl
@[simp] theorem setSramByte_cfg (a : Word) (v : Byte) : (s.setSramByte a v).cfg = s.cfg := rfl
@[simp] theorem setSramByte_env (a : Word) (v : Byte) : (s.setSramByte a v).env = s.env := rfl
@[simp] theorem setSramByte_powerUp (a : Word) (v : Byte) : (s.setSramByte a v).powerUp = s.powerUp := rfl
@[simp] theorem setSramByte_cycles (a : Word) (v : Byte) : (s.setSramByte a v).cycles = s.cycles := rfl
@[simp] theorem setSramByte_trimSp (a : Word) (v : Byte) (c : Word) : (s.setSramByte a v).trimSp c = s.trimSp c := rfl
@[simp] theorem setSramByte_stackPtr (a : Word) (v : Byte) : (s.setSramByte a v).stackPtr = s.stackPtr := rfl
@[simp] theorem setSramByte_reg (a : Word) (v : Byte) (i : Reg) : (s.setSramByte a v).reg i = s.reg i := rfl
@[simp] theorem setSramByte_pair (a : Word) (v : Byte) (i : Reg) : (s.setSramByte a v).pair i = s.pair i := rfl
@[simp] theorem setSramByte_progByte (a : Word) (v : Byte) (c : BitVec 15) : (s.setSramByte a v).progByte c = s.progByte c := rfl
@[simp] theorem setSramByte_progWord (a : Word) (v : Byte) (c : ProgAddr) : (s.setSramByte a v).progWord c = s.progWord c := rfl
@[simp] theorem setSramByte_deviceByte (a : Word) (v : Byte) (c : Word) : (s.setSramByte a v).deviceByte c = s.deviceByte c := rfl

/-! `deviceAfterRead` -/

@[simp] theorem deviceAfterRead_regs (a : Word) : (s.deviceAfterRead a).regs = s.regs := rfl
@[simp] theorem deviceAfterRead_pc (a : Word) : (s.deviceAfterRead a).pc = s.pc := rfl
@[simp] theorem deviceAfterRead_sreg (a : Word) : (s.deviceAfterRead a).sreg = s.sreg := rfl
@[simp] theorem deviceAfterRead_sp (a : Word) : (s.deviceAfterRead a).sp = s.sp := rfl
@[simp] theorem deviceAfterRead_sram (a : Word) : (s.deviceAfterRead a).sram = s.sram := rfl
@[simp] theorem deviceAfterRead_flash (a : Word) : (s.deviceAfterRead a).flash = s.flash := rfl
@[simp] theorem deviceAfterRead_dev (a : Word) : (s.deviceAfterRead a).dev = .read a :: s.dev := rfl
@[simp] theorem deviceAfterRead_pending (a : Word) : (s.deviceAfterRead a).pending = s.pending := rfl
@[simp] theorem deviceAfterRead_inhibit (a : Word) : (s.deviceAfterRead a).inhibit = s.inhibit := rfl
@[simp] theorem deviceAfterRead_sleeping (a : Word) : (s.deviceAfterRead a).sleeping = s.sleeping := rfl
@[simp] theorem deviceAfterRead_cfg (a : Word) : (s.deviceAfterRead a).cfg = s.cfg := rfl
@[simp] theorem deviceAfterRead_env (a : Word) : (s.deviceAfterRead a).env = s.env := rfl
@[simp] theorem deviceAfterRead_powerUp (a : Word) : (s.deviceAfterRead a).powerUp = s.powerUp := rfl
@[simp] theorem deviceAfterRead_cycles (a : Word) : (s.deviceAfterRead a).cycles = s.cycles := rfl
@[simp] theorem deviceAfterRead_trimSp (a : Word) (c : Word) : (s.deviceAfterRead a).trimSp c = s.trimSp c := rfl
@[simp] theorem deviceAfterRead_stackPtr (a : Word) : (s.deviceAfterRead a).stackPtr = s.stackPtr := rfl
@[simp] theorem deviceAfterRead_reg (a : Word) (i : Reg) : (s.deviceAfterRead a).reg i = s.reg i := rfl
@[simp] theorem deviceAfterRead_pair (a : Word) (i : Reg) : (s.deviceAfterRead a).pair i = s.pair i := rfl
@[simp] theorem deviceAfterRead_sramByte (a : Word) (c : Word) : (s.deviceAfterRead a).sramByte c = s.sramByte c := rfl
@[simp] theorem deviceAfterRead_progByte (a : Word) (c : BitVec 15) : (s.deviceAfterRead a).progByte c = s.progByte c := rfl
@[simp] theorem deviceAfterRead_progWord (a : Word) (c : ProgAddr) : (s.deviceAfterRead a).progWord c = s.progWord c := rfl

/-! `deviceWrite` -/

@[simp] theorem deviceWrite_regs (a : Word) (v : Byte) : (s.deviceWrite a v).regs = s.regs := rfl
@[simp] theorem deviceWrite_pc (a : Word) (v : Byte) : (s.deviceWrite a v).pc = s.pc := rfl
@[simp] theorem deviceWrite_sreg (a : Word) (v : Byte) : (s.deviceWrite a v).sreg = s.sreg := rfl
@[simp] theorem deviceWrite_sp (a : Word) (v : Byte) : (s.deviceWrite a v).sp = s.sp := rfl
@[simp] theorem deviceWrite_sram (a : Word) (v : Byte) : (s.deviceWrite a v).sram = s.sram := rfl
@[simp] theorem deviceWrite_flash (a : Word) (v : Byte) : (s.deviceWrite a v).flash = s.flash := rfl
@[simp] theorem deviceWrite_dev (a : Word) (v : Byte) : (s.deviceWrite a v).dev = .write a v :: s.dev := rfl
@[simp] theorem deviceWrite_inhibit (a : Word) (v : Byte) : (s.deviceWrite a v).inhibit = s.inhibit := rfl
@[simp] theorem deviceWrite_sleeping (a : Word) (v : Byte) : (s.deviceWrite a v).sleeping = s.sleeping := rfl
@[simp] theorem deviceWrite_cfg (a : Word) (v : Byte) : (s.deviceWrite a v).cfg = s.cfg := rfl
@[simp] theorem deviceWrite_env (a : Word) (v : Byte) : (s.deviceWrite a v).env = s.env := rfl
@[simp] theorem deviceWrite_powerUp (a : Word) (v : Byte) : (s.deviceWrite a v).powerUp = s.powerUp := rfl
@[simp] theorem deviceWrite_cycles (a : Word) (v : Byte) : (s.deviceWrite a v).cycles = s.cycles := rfl
@[simp] theorem deviceWrite_trimSp (a : Word) (v : Byte) (c : Word) : (s.deviceWrite a v).trimSp c = s.trimSp c := rfl
@[simp] theorem deviceWrite_stackPtr (a : Word) (v : Byte) : (s.deviceWrite a v).stackPtr = s.stackPtr := rfl
@[simp] theorem deviceWrite_reg (a : Word) (v : Byte) (i : Reg) : (s.deviceWrite a v).reg i = s.reg i := rfl
@[simp] theorem deviceWrite_pair (a : Word) (v : Byte) (i : Reg) : (s.deviceWrite a v).pair i = s.pair i := rfl
@[simp] theorem deviceWrite_sramByte (a : Word) (v : Byte) (c : Word) : (s.deviceWrite a v).sramByte c = s.sramByte c := rfl
@[simp] theorem deviceWrite_progByte (a : Word) (v : Byte) (c : BitVec 15) : (s.deviceWrite a v).progByte c = s.progByte c := rfl
@[simp] theorem deviceWrite_progWord (a : Word) (v : Byte) (c : ProgAddr) : (s.deviceWrite a v).progWord c = s.progWord c := rfl

/-! `deviceWdr` -/

@[simp] theorem deviceWdr_regs : (s.deviceWdr).regs = s.regs := rfl
@[simp] theorem deviceWdr_pc : (s.deviceWdr).pc = s.pc := rfl
@[simp] theorem deviceWdr_sreg : (s.deviceWdr).sreg = s.sreg := rfl
@[simp] theorem deviceWdr_sp : (s.deviceWdr).sp = s.sp := rfl
@[simp] theorem deviceWdr_sram : (s.deviceWdr).sram = s.sram := rfl
@[simp] theorem deviceWdr_flash : (s.deviceWdr).flash = s.flash := rfl
@[simp] theorem deviceWdr_dev : (s.deviceWdr).dev = .wdr :: s.dev := rfl
@[simp] theorem deviceWdr_pending : (s.deviceWdr).pending = s.pending := rfl
@[simp] theorem deviceWdr_inhibit : (s.deviceWdr).inhibit = s.inhibit := rfl
@[simp] theorem deviceWdr_sleeping : (s.deviceWdr).sleeping = s.sleeping := rfl
@[simp] theorem deviceWdr_cfg : (s.deviceWdr).cfg = s.cfg := rfl
@[simp] theorem deviceWdr_env : (s.deviceWdr).env = s.env := rfl
@[simp] theorem deviceWdr_powerUp : (s.deviceWdr).powerUp = s.powerUp := rfl
@[simp] theorem deviceWdr_cycles : (s.deviceWdr).cycles = s.cycles := rfl
@[simp] theorem deviceWdr_trimSp (c : Word) : (s.deviceWdr).trimSp c = s.trimSp c := rfl
@[simp] theorem deviceWdr_stackPtr : (s.deviceWdr).stackPtr = s.stackPtr := rfl
@[simp] theorem deviceWdr_reg (i : Reg) : (s.deviceWdr).reg i = s.reg i := rfl
@[simp] theorem deviceWdr_pair (i : Reg) : (s.deviceWdr).pair i = s.pair i := rfl
@[simp] theorem deviceWdr_sramByte (c : Word) : (s.deviceWdr).sramByte c = s.sramByte c := rfl
@[simp] theorem deviceWdr_progByte (c : BitVec 15) : (s.deviceWdr).progByte c = s.progByte c := rfl
@[simp] theorem deviceWdr_progWord (c : ProgAddr) : (s.deviceWdr).progWord c = s.progWord c := rfl

/-! `loadWord` -/

@[simp] theorem loadWord_regs (w : ProgAddr) (v : Word) : (s.loadWord w v).regs = s.regs := rfl
@[simp] theorem loadWord_pc (w : ProgAddr) (v : Word) : (s.loadWord w v).pc = s.pc := rfl
@[simp] theorem loadWord_sreg (w : ProgAddr) (v : Word) : (s.loadWord w v).sreg = s.sreg := rfl
@[simp] theorem loadWord_sp (w : ProgAddr) (v : Word) : (s.loadWord w v).sp = s.sp := rfl
@[simp] theorem loadWord_sram (w : ProgAddr) (v : Word) : (s.loadWord w v).sram = s.sram := rfl
@[simp] theorem loadWord_dev (w : ProgAddr) (v : Word) : (s.loadWord w v).dev = s.dev := rfl
@[simp] theorem loadWord_pending (w : ProgAddr) (v : Word) : (s.loadWord w v).pending = s.pending := rfl
@[simp] theorem loadWord_inhibit (w : ProgAddr) (v : Word) : (s.loadWord w v).inhibit = s.inhibit := rfl
@[simp] theorem loadWord_sleeping (w : ProgAddr) (v : Word) : (s.loadWord w v).sleeping = s.sleeping := rfl
@[simp] theorem loadWord_cfg (w : ProgAddr) (v : Word) : (s.loadWord w v).cfg = s.cfg := rfl
@[simp] theorem loadWord_env (w : ProgAddr) (v : Word) : (s.loadWord w v).env = s.env := rfl
@[simp] theorem loadWord_powerUp (w : ProgAddr) (v : Word) : (s.loadWord w v).powerUp = s.powerUp := rfl
@[simp] theorem loadWord_cycles (w : ProgAddr) (v : Word) : (s.loadWord w v).cycles = s.cycles := rfl
@[simp] theorem loadWord_trimSp (w : ProgAddr) (v : Word) (c : Word) : (s.loadWord w v).trimSp c = s.trimSp c := rfl
@[simp] theorem loadWord_stackPtr (w : ProgAddr) (v : Word) : (s.loadWord w v).stackPtr = s.stackPtr := rfl
@[simp] theorem loadWord_reg (w : ProgAddr) (v : Word) (i : Reg) : (s.loadWord w v).reg i = s.reg i := rfl
@[simp] theorem loadWord_pair (w : ProgAddr) (v : Word) (i : Reg) : (s.loadWord w v).pair i = s.pair i := rfl
@[simp] theorem loadWord_sramByte (w : ProgAddr) (v : Word) (c : Word) : (s.loadWord w v).sramByte c = s.sramByte c := rfl
@[simp] theorem loadWord_deviceByte (w : ProgAddr) (v : Word) (c : Word) : (s.loadWord w v).deviceByte c = s.deviceByte c := rfl

/-! `tick` -/

@[simp] theorem tick_regs (n : Nat) : (s.tick n).regs = s.regs := rfl
@[simp] theorem tick_pc (n : Nat) : (s.tick n).pc = s.pc := rfl
@[simp] theorem tick_sreg (n : Nat) : (s.tick n).sreg = s.sreg := rfl
@[simp] theorem tick_sp (n : Nat) : (s.tick n).sp = s.sp := rfl
@[simp] theorem tick_sram (n : Nat) : (s.tick n).sram = s.sram := rfl
@[simp] theorem tick_flash (n : Nat) : (s.tick n).flash = s.flash := rfl
@[simp] theorem tick_dev (n : Nat) : (s.tick n).dev = s.dev := rfl
@[simp] theorem tick_pending (n : Nat) : (s.tick n).pending = s.pending := rfl
@[simp] theorem tick_inhibit (n : Nat) : (s.tick n).inhibit = s.inhibit := rfl
@[simp] theorem tick_sleeping (n : Nat) : (s.tick n).sleeping = s.sleeping := rfl
@[simp] theorem tick_cfg (n : Nat) : (s.tick n).cfg = s.cfg := rfl
@[simp] theorem tick_env (n : Nat) : (s.tick n).env = s.env := rfl
@[simp] theorem tick_powerUp (n : Nat) : (s.tick n).powerUp = s.powerUp := rfl
@[simp] theorem tick_cycles (n : Nat) : (s.tick n).cycles = s.cycles + n := rfl
@[simp] theorem tick_trimSp (n : Nat) (c : Word) : (s.tick n).trimSp c = s.trimSp c := rfl
@[simp] theorem tick_stackPtr (n : Nat) : (s.tick n).stackPtr = s.stackPtr := rfl
@[simp] theorem tick_reg (n : Nat) (i : Reg) : (s.tick n).reg i = s.reg i := rfl
@[simp] theorem tick_pair (n : Nat) (i : Reg) : (s.tick n).pair i = s.pair i := rfl
@[simp] theorem tick_sramByte (n : Nat) (c : Word) : (s.tick n).sramByte c = s.sramByte c := rfl
@[simp] theorem tick_progByte (n : Nat) (c : BitVec 15) : (s.tick n).progByte c = s.progByte c := rfl
@[simp] theorem tick_progWord (n : Nat) (c : ProgAddr) : (s.tick n).progWord c = s.progWord c := rfl
@[simp] theorem tick_deviceByte (n : Nat) (c : Word) : (s.tick n).deviceByte c = s.deviceByte c := rfl

/-! The stack pointer, cut to its width (10_state.md R29). -/

theorem trimSp_toNat (a : Word) : (s.trimSp a).toNat = a.toNat % s.cfg.spBits.size := by
  simp only [trimSp, BitVec.toNat_ofNat]
  have := Nat.mod_le a.toNat s.cfg.spBits.size
  have := a.isLt
  omega

/-- An address below 0x1000 exists in either width. -/
theorem trimSp_of_lt {a : Word} (h : a.toNat < 0x1000) : s.trimSp a = a := by
  refine BitVec.eq_of_toNat_eq ?_
  rw [trimSp_toNat]
  cases s.cfg.spBits <;> simp only [SpBits.size] <;> omega

@[simp] theorem trimSp_trimSp (a : Word) : s.trimSp (s.trimSp a) = s.trimSp a := by
  refine BitVec.eq_of_toNat_eq ?_
  simp only [trimSp_toNat, Nat.mod_mod]

@[simp] theorem trimSp_stackPtr : s.trimSp s.stackPtr = s.stackPtr := trimSp_trimSp s s.sp

@[simp] theorem setSp_stackPtr (a : Word) : (s.setSp a).stackPtr = s.trimSp a := trimSp_trimSp s a

/-! Registers read after a write (10_state.md R20). -/

@[simp] theorem setReg_reg_self (i : Reg) (v : Byte) : (s.setReg i v).reg i = v := by simp [reg]

theorem setReg_reg_ne {i j : Reg} (v : Byte) (h : j ≠ i) : (s.setReg i v).reg j = s.reg j := by
  have : i.val ≠ j.val := fun e => h (Fin.ext e.symm)
  simp [reg, Vector.getElem_set_ne _ _ this]

theorem setReg_reg (i j : Reg) (v : Byte) : (s.setReg i v).reg j = if j = i then v else s.reg j := by
  split
  · subst j; exact setReg_reg_self s i v
  · exact setReg_reg_ne s v (by assumption)

/-- A pair's two registers differ, also at the wrap from R31 to R0 (log 23). -/
theorem succ_ne (d : Reg) : d + 1 ≠ d := by decide +revert

@[simp] theorem setPair_reg_low (d : Reg) (v : Word) : (s.setPair d v).reg d = lowByte v := by
  simp [setPair, setReg_reg, (succ_ne d).symm]

@[simp] theorem setPair_reg_high (d : Reg) (v : Word) : (s.setPair d v).reg (d + 1) = highByte v := by simp [setPair]

theorem setPair_reg_ne {d j : Reg} (v : Word) (h : j ≠ d) (h' : j ≠ d + 1) : (s.setPair d v).reg j = s.reg j := by
  simp [setPair, setReg_reg, h, h']

theorem ofBytes_high_low (v : Word) : ofBytes (highByte v) (lowByte v) = v := by
  refine BitVec.eq_of_getLsbD_eq fun i hi => ?_
  simp only [ofBytes, highByte, lowByte, BitVec.getLsbD_append, BitVec.getLsbD_extractLsb']
  by_cases h : i < 8
  · simp [h]
  · simp [h, show i - 8 < 8 by omega, show 8 + (i - 8) = i by omega]

/-- A pair written reads back (10_state.md R21). -/
@[simp] theorem setPair_pair_self (d : Reg) (v : Word) : (s.setPair d v).pair d = v := by
  simp [pair, ofBytes_high_low]

/-- Every register keeps its content. -/
theorem regs_ext {s t : State} (h : ∀ i, s.reg i = t.reg i) : s.regs = t.regs :=
  Vector.ext fun i hi => h ⟨i, hi⟩

end Sys2Proof.Machine.State
end

