-- ==== Sys2Proof/Laws/Memory.lean ====
section
/-!
SUPPORT. The laws of memory: a read after a write, everything else left alone, and the canonical form, which every
operation keeps and the reset memory has.
-/

namespace Sys2Proof

namespace Memory

/-! ### Reading after a write -/

@[simp] theorem get_nil (a : Nat) : get [] a = none := rfl

theorem get_put (m : Memory) (a b : Nat) (v : Byte) : (put m a v).get b = if b = a then some v else m.get b := by
  induction m with
  | nil => simp [put, get]
  | cons c m ih =>
    obtain ⟨x, w⟩ := c
    simp only [put]
    split_ifs with h1 h2 h3 h3 h3 <;> simp only [get] <;> split_ifs <;> first | rfl | omega | simp_all

@[simp] theorem get_put_self (m : Memory) (a : Nat) (v : Byte) : (put m a v).get a = some v := by simp [get_put]

theorem get_put_ne (m : Memory) {a b : Nat} (v : Byte) (h : b ≠ a) : (put m a v).get b = m.get b := by
  simp [get_put, h]

theorem get_drop (m : Memory) (a b : Nat) : (drop m a).get b = if b = a then none else m.get b := by
  induction m with
  | nil => simp [drop, get]
  | cons c m ih =>
    obtain ⟨x, w⟩ := c
    simp only [drop]
    split_ifs <;> simp_all [get]

/-! ### The canonical form -/

theorem mem_put {m : Memory} {a : Nat} {v : Byte} {c : Host.Cell} (h : c ∈ put m a v) : c = (a, v) ∨ c ∈ m := by
  induction m with
  | nil => simpa [put] using h
  | cons d m ih =>
    obtain ⟨x, w⟩ := d
    simp only [put] at h
    split_ifs at h <;> simp only [List.mem_cons] at h ⊢ <;> tauto

theorem mem_drop {m : Memory} {a : Nat} {c : Host.Cell} (h : c ∈ drop m a) : c ∈ m := by
  induction m with
  | nil => simp [drop] at h
  | cons d m ih =>
    obtain ⟨x, w⟩ := d
    simp only [drop] at h
    split_ifs at h <;> simp only [List.mem_cons] at h ⊢ <;> tauto

theorem rising_put {m : Memory} (h : Rising m) (a : Nat) (v : Byte) : Rising (put m a v) := by
  induction m with
  | nil => simp [put, Rising]
  | cons c m ih =>
    obtain ⟨x, w⟩ := c
    obtain ⟨hx, hm⟩ := List.pairwise_cons.1 h
    simp only [put]
    split_ifs with h1 h2
    · refine List.pairwise_cons.2 ⟨fun c hc => ?_, h⟩
      rcases List.mem_cons.1 hc with rfl | hc
      · exact h1
      · exact Nat.lt_trans h1 (hx c hc)
    · exact List.pairwise_cons.2 ⟨h2 ▸ hx, hm⟩
    · refine List.pairwise_cons.2 ⟨fun c hc => ?_, ih hm⟩
      rcases mem_put hc with rfl | hc
      · show x < a
        omega
      · exact hx c hc

theorem rising_drop {m : Memory} (h : Rising m) (a : Nat) : Rising (drop m a) := by
  induction m with
  | nil => exact h
  | cons c m ih =>
    obtain ⟨x, w⟩ := c
    obtain ⟨hx, hm⟩ := List.pairwise_cons.1 h
    simp only [drop]
    split_ifs
    · exact ih hm
    · exact List.pairwise_cons.2 ⟨fun c hc => hx c (mem_drop hc), ih hm⟩

theorem wfSram_put {hw : Hardware} {m : Memory} (h : wfSram hw m) {a : Nat} (h1 : hw.sramStart ≤ a) (h2 : a ≤ hw.ramEnd)
    (v : Byte) : wfSram hw (put m a v) := by
  refine ⟨rising_put h.1 a v, fun c hc => ?_⟩
  rcases mem_put hc with rfl | hc
  · exact ⟨h1, h2⟩
  · exact h.2 c hc

theorem wfFlash_flashPut {hw : Hardware} {m : Memory} (h : wfFlash hw m) {a : Nat} (ha : a < 2 * hw.flashWords)
    (v : Byte) : wfFlash hw (flashPut m a v) := by
  unfold flashPut
  split
  · exact ⟨rising_drop h.1 a, fun c hc => h.2 c (mem_drop hc)⟩
  · refine ⟨rising_put h.1 a v, fun c hc => ?_⟩
    rcases mem_put hc with rfl | hc
    · exact ⟨ha, by assumption⟩
    · exact h.2 c hc

theorem flashGet_flashPut (m : Memory) (a b : Nat) (v : Byte) :
    (flashPut m a v).flashGet b = if b = a then v else m.flashGet b := by
  unfold flashPut flashGet
  split <;> simp only [get_drop, get_put] <;> split <;> simp_all

/-- What a rising memory lists, its first entries bound from below by the head. -/
theorem get_eq_none_of_lt {m : Memory} {a : Nat} (h : ∀ c ∈ m, a < c.1) : m.get a = none := by
  induction m with
  | nil => rfl
  | cons c m ih =>
    obtain ⟨x, w⟩ := c
    have : a < x := h (x, w) (by simp)
    simp only [get, Nat.ne_of_lt this, if_false]
    exact ih fun c hc => h c (by simp [hc])

/-- Equal memories are equal data: two rising lists that list the same bytes are the same list. -/
theorem eq_of_get_eq {m n : Memory} (hm : Rising m) (hn : Rising n) (h : ∀ a, m.get a = n.get a) : m = n := by
  induction m generalizing n with
  | nil =>
    cases n with
    | nil => rfl
    | cons c n => obtain ⟨x, w⟩ := c; simpa [get] using h x
  | cons c m ih =>
    obtain ⟨x, w⟩ := c
    obtain ⟨hx, hm'⟩ := List.pairwise_cons.1 hm
    cases n with
    | nil => simpa [get] using h x
    | cons d n =>
      obtain ⟨y, u⟩ := d
      obtain ⟨hy, hn'⟩ := List.pairwise_cons.1 hn
      have hxy : x = y := by
        rcases Nat.lt_trichotomy x y with lt | eq | lt
        · have := h x
          rw [get_eq_none_of_lt (m := (y, u) :: n) (a := x) ?_] at this
          · simp [get] at this
          · intro c hc
            rcases List.mem_cons.1 hc with rfl | hc
            · exact lt
            · exact Nat.lt_trans lt (hy c hc)
        · exact eq
        · have := h y
          rw [get_eq_none_of_lt (m := (x, w) :: m) (a := y) ?_] at this
          · simp [get] at this
          · intro c hc
            rcases List.mem_cons.1 hc with rfl | hc
            · exact lt
            · exact Nat.lt_trans lt (hx c hc)
      subst hxy
      have hwu : w = u := by simpa [get] using h x
      subst hwu
      rw [ih hm' hn' fun a => ?_]
      by_cases ha : a = x
      · subst ha; rw [get_eq_none_of_lt hx, get_eq_none_of_lt hy]
      · simpa [get, ha] using h a

end Memory

namespace Machine.State

variable (s : State)

/-! ### SRAM (20_memory.md R52, R53) -/

theorem setSramByte_sramByte (a b : Word) (v : Byte) :
    (s.setSramByte a v).sramByte b = if b = a then v else s.sramByte b := by
  have : b.toNat = a.toNat ↔ b = a := ⟨BitVec.eq_of_toNat_eq, congrArg _⟩
  simp only [sramByte, setSramByte, Memory.get_put, this]
  split <;> rfl

@[simp] theorem setSramByte_sramByte_self (a : Word) (v : Byte) : (s.setSramByte a v).sramByte a = v := by
  simp [setSramByte_sramByte]

theorem setSramByte_sramByte_ne {a b : Word} (v : Byte) (h : b ≠ a) :
    (s.setSramByte a v).sramByte b = s.sramByte b := by
  simp [setSramByte_sramByte, h]

/-! ### Program memory (20_memory.md R58, R59) -/

theorem byteAddr_toNat (w : ProgAddr) (b : BitVec 1) : (w ++ b : BitVec 15).toNat = 2 * w.toNat + b.toNat := by
  rw [BitVec.toNat_append, ← Nat.shiftLeft_add_eq_or_of_lt b.isLt, Nat.shiftLeft_eq]
  omega

theorem loadWord_progByte (w u : ProgAddr) (v : Word) (b : BitVec 1) :
    (s.loadWord w v).progByte (u ++ b) =
      if u = w then (if b = 0#1 then lowByte v else highByte v) else s.progByte (u ++ b) := by
  have hb : b.toNat < 2 := b.isLt
  have e : u = w ↔ u.toNat = w.toNat := ⟨congrArg _, BitVec.eq_of_toNat_eq⟩
  have e0 : b = 0#1 ↔ b.toNat = 0 := ⟨congrArg _, fun h => BitVec.eq_of_toNat_eq h⟩
  simp only [progByte, loadWord, Memory.flashGet_flashPut, byteAddr_toNat, e, e0,
    show (0#1).toNat = 0 from rfl, show (1#1).toNat = 1 from rfl]
  split_ifs <;> first | rfl | omega

/-- A word loaded reads back, and every other word stays (20_memory.md R58). -/
theorem loadWord_progWord (w u : ProgAddr) (v : Word) :
    (s.loadWord w v).progWord u = if u = w then v else s.progWord u := by
  simp only [progWord, loadWord_progByte]
  split_ifs with h <;> first | rfl | exact ofBytes_high_low v | exact absurd ‹_› (by decide)

/-- Loading a word keeps the canonical form of program memory. -/
theorem wfFlash_loadWord (h : Memory.wfFlash s.cfg.hw s.flash) (w : ProgAddr) (v : Word) :
    Memory.wfFlash s.cfg.hw (s.loadWord w v).flash := by
  have lt (b : BitVec 1) : (w ++ b : BitVec 15).toNat < 2 * s.cfg.hw.flashWords := (w ++ b : BitVec 15).isLt
  exact Memory.wfFlash_flashPut (Memory.wfFlash_flashPut h (lt _) _) (lt _) _

/-- Writing an SRAM byte keeps the canonical form of SRAM. -/
theorem wfSram_setSramByte (h : Memory.wfSram s.cfg.hw s.sram) {a : Word} (h1 : s.cfg.hw.sramStart ≤ a.toNat)
    (h2 : a.toNat ≤ s.cfg.hw.ramEnd) (v : Byte) : Memory.wfSram s.cfg.hw (s.setSramByte a v).sram :=
  Memory.wfSram_put h h1 h2 v

/-- The reset memories have the canonical form. -/
theorem reset_wf :
    Memory.wfSram State.reset.cfg.hw State.reset.sram ∧ Memory.wfFlash State.reset.cfg.hw State.reset.flash :=
  ⟨⟨.nil, fun _ h => nomatch h⟩, .nil, fun _ h => nomatch h⟩

end Machine.State

end Sys2Proof
end

