-- ==== Sys2Proof/Laws/Ops.lean ====
section
/-!
SUPPORT. For each shared operation one lemma that says everything it can do: if it answers a next state, which one. The
provers cite these and do not unfold the operations.
-/

namespace Sys2Proof.Machine

/-! ### The data-space map -/

/-- The data-space map with its addresses written out (20_memory.md R51, R52). -/
theorem dataCell_eq (c : Config) (a : Word) :
    dataCell c a =
      if h : a.toNat < 32 then .register ⟨a.toNat, h⟩
      else if a = 0x5D then .spl
      else if a = 0x5E then .sph
      else if a = 0x5F then .sreg
      else if a.toNat ≤ 0xFF then .device
      else if a.toNat ≤ 0x8FF then .sram
      else .unmapped := by
  unfold dataCell
  by_cases h : a.toNat < 32
  · rw [dif_pos h, dif_pos ⟨Nat.zero_le _, Nat.le_of_lt_succ h⟩]
    rfl
  · rw [dif_neg h, dif_neg fun h' => h (Nat.lt_succ_of_le h'.2)]
    show
      (if a = 0x5D then DataCell.spl
      else if a = 0x5E then .sph
      else if a = 0x5F then .sreg
      else if 0x20 ≤ a.toNat ∧ a.toNat ≤ 0x5F then .device
      else if 0x60 ≤ a.toNat ∧ a.toNat ≤ 0xFF then .device
      else if 0x100 ≤ a.toNat ∧ a.toNat ≤ 0x8FF then .sram
      else .unmapped) = _
    split_ifs <;> first | rfl | omega

theorem dataCell_register {c : Config} {a : Word} (h : a.toNat < 32) : dataCell c a = .register ⟨a.toNat, h⟩ := by
  simp [dataCell_eq, h]

/-- What each address names, read backwards (20_memory.md R51). -/
theorem dataCell_cases (c : Config) (a : Word) :
    (∃ h : a.toNat < 32, dataCell c a = .register ⟨a.toNat, h⟩) ∨ (a = 0x5D ∧ dataCell c a = .spl) ∨
    (a = 0x5E ∧ dataCell c a = .sph) ∨ (a = 0x5F ∧ dataCell c a = .sreg) ∨
    (32 ≤ a.toNat ∧ a.toNat ≤ 0xFF ∧ a ≠ 0x5D ∧ a ≠ 0x5E ∧ a ≠ 0x5F ∧ dataCell c a = .device) ∨
    (0x100 ≤ a.toNat ∧ a.toNat ≤ 0x8FF ∧ dataCell c a = .sram) ∨ (0x8FF < a.toNat ∧ dataCell c a = .unmapped) := by
  by_cases h : a.toNat < 32
  · exact .inl ⟨h, dataCell_register h⟩
  by_cases h1 : a = 0x5D
  · subst h1; exact .inr (.inl ⟨rfl, by simp [dataCell_eq]⟩)
  by_cases h2 : a = 0x5E
  · subst h2; exact .inr (.inr (.inl ⟨rfl, by simp [dataCell_eq]⟩))
  by_cases h3 : a = 0x5F
  · subst h3; exact .inr (.inr (.inr (.inl ⟨rfl, by simp [dataCell_eq]⟩)))
  have e : dataCell c a = if a.toNat ≤ 0xFF then .device else if a.toNat ≤ 0x8FF then .sram else .unmapped := by
    simp only [dataCell_eq, h, h1, h2, h3, dite_false, if_false]
  by_cases h4 : a.toNat ≤ 0xFF
  · exact .inr (.inr (.inr (.inr (.inl ⟨by omega, h4, h1, h2, h3, by simp [e, h4]⟩))))
  by_cases h5 : a.toNat ≤ 0x8FF
  · exact .inr (.inr (.inr (.inr (.inr (.inl ⟨by omega, h5, by simp [e, h4, h5]⟩)))))
  · exact .inr (.inr (.inr (.inr (.inr (.inr ⟨by omega, by simp [e, h4, h5]⟩)))))

theorem dataCell_sram {c : Config} {a : Word} (h : 0x100 ≤ a.toNat) (h' : a.toNat ≤ 0x8FF) :
    dataCell c a = .sram := by
  rcases dataCell_cases c a with ⟨h1, -⟩ | ⟨rfl, -⟩ | ⟨rfl, -⟩ | ⟨rfl, -⟩ | ⟨-, h1, -⟩ | ⟨-, -, e⟩ | ⟨h1, -⟩
  · omega
  · exact absurd h (by decide)
  · exact absurd h (by decide)
  · exact absurd h (by decide)
  · omega
  · exact e
  · omega

theorem dataCell_sram_iff {c : Config} {a : Word} : dataCell c a = .sram ↔ 0x100 ≤ a.toNat ∧ a.toNat ≤ 0x8FF := by
  refine ⟨fun e => ?_, fun h => dataCell_sram h.1 h.2⟩
  rcases dataCell_cases c a with ⟨_, h⟩ | ⟨_, h⟩ | ⟨_, h⟩ | ⟨_, h⟩ | ⟨_, _, _, _, _, h⟩ | ⟨h1, h2, _⟩ | ⟨_, h⟩
  case inr.inr.inr.inr.inr.inl => exact ⟨h1, h2⟩
  all_goals simp [h] at e

/-- Everything a data-space read can answer (20_memory.md R52). -/
theorem memRead_cases {a : Word} {s u : State} {v : Byte} (h : memRead a s = .ok (v, u)) :
    (u = s ∧ ((∃ h, v = s.reg ⟨a.toNat, h⟩) ∨ (a = 0x5D ∧ v = lowByte s.stackPtr) ∨
      (a = 0x5E ∧ v = highByte s.stackPtr) ∨ (a = 0x5F ∧ v = s.sreg.toByte) ∨
      (0x100 ≤ a.toNat ∧ a.toNat ≤ 0x8FF ∧ v = s.sramByte a))) ∨
    (32 ≤ a.toNat ∧ a.toNat ≤ 0xFF ∧ u = s.deviceAfterRead a ∧ v = s.deviceByte a) := by
  unfold memRead at h
  rcases dataCell_cases s.cfg a with ⟨hr, e⟩ | ⟨rfl, e⟩ | ⟨rfl, e⟩ | ⟨rfl, e⟩ | ⟨h1, h2, _, _, _, e⟩ | ⟨h1, h2, e⟩ | ⟨h1, e⟩ <;>
    simp only [e, Except.ok.injEq, Prod.mk.injEq, reduceCtorEq] at h <;> obtain ⟨rfl, rfl⟩ := h
  · exact .inl ⟨rfl, .inl ⟨hr, rfl⟩⟩
  · exact .inl ⟨rfl, .inr (.inl ⟨rfl, rfl⟩)⟩
  · exact .inl ⟨rfl, .inr (.inr (.inl ⟨rfl, rfl⟩))⟩
  · exact .inl ⟨rfl, .inr (.inr (.inr (.inl ⟨rfl, rfl⟩)))⟩
  · exact .inr ⟨h1, h2, rfl, rfl⟩
  · exact .inl ⟨rfl, .inr (.inr (.inr (.inr ⟨h1, h2, rfl⟩)))⟩

/-- A data-space read changes nothing but the devices' history. -/
theorem memRead_state {a : Word} {s u : State} {v : Byte} (h : memRead a s = .ok (v, u)) :
    u = s ∨ u = s.deviceAfterRead a := by
  rcases memRead_cases h with ⟨e, _⟩ | ⟨_, _, e, _⟩
  · exact .inl e
  · exact .inr e

/-- A data-space read of SRAM. -/
theorem memRead_sram {a : Word} (s : State) (h : 0x100 ≤ a.toNat) (h' : a.toNat ≤ 0x8FF) :
    memRead a s = .ok (s.sramByte a, s) := by simp [memRead, dataCell_sram h h']

/-- A data-space read stops only above RAMEND (20_memory.md R52). -/
theorem memRead_error {a : Word} {s : State} {f : Fault} (h : memRead a s = .error f) :
    0x8FF < a.toNat ∧ f = .unmappedData a .read := by
  unfold memRead at h
  rcases dataCell_cases s.cfg a with ⟨_, e⟩ | ⟨_, e⟩ | ⟨_, e⟩ | ⟨_, e⟩ | ⟨_, _, _, _, _, e⟩ | ⟨_, _, e⟩ | ⟨h1, e⟩ <;>
    simp [e] at h
  exact ⟨h1, h.symm⟩

/-- Everything a data-space write can answer (20_memory.md R53). -/
theorem memWrite_cases {a : Word} {v : Byte} {s u : State} (h : memWrite a v s = .ok u) :
    (∃ h, u = s.setReg ⟨a.toNat, h⟩ v) ∨ (a = 0x5D ∧ u = s.setSp (ofBytes (highByte s.stackPtr) v)) ∨
    (a = 0x5E ∧ u = s.setSp (ofBytes v (lowByte s.stackPtr))) ∨
    (a = 0x5F ∧ u = s.writeSreg (Sreg.ofByte v)) ∨
    (32 ≤ a.toNat ∧ a.toNat ≤ 0xFF ∧ u = s.deviceWrite a v) ∨
    (0x100 ≤ a.toNat ∧ a.toNat ≤ 0x8FF ∧ u = s.setSramByte a v) := by
  unfold memWrite at h
  rcases dataCell_cases s.cfg a with ⟨hr, e⟩ | ⟨rfl, e⟩ | ⟨rfl, e⟩ | ⟨rfl, e⟩ | ⟨h1, h2, _, _, _, e⟩ | ⟨h1, h2, e⟩ | ⟨h1, e⟩ <;>
    simp only [e, Except.ok.injEq, reduceCtorEq] at h <;> subst h
  · exact .inl ⟨hr, rfl⟩
  · exact .inr (.inl ⟨rfl, rfl⟩)
  · exact .inr (.inr (.inl ⟨rfl, rfl⟩))
  · exact .inr (.inr (.inr (.inl ⟨rfl, rfl⟩)))
  · exact .inr (.inr (.inr (.inr (.inl ⟨h1, h2, rfl⟩))))
  · exact .inr (.inr (.inr (.inr (.inr ⟨h1, h2, rfl⟩))))

/-- A data-space write to SRAM. -/
theorem memWrite_sram {a : Word} (v : Byte) (s : State) (h : 0x100 ≤ a.toNat) (h' : a.toNat ≤ 0x8FF) :
    memWrite a v s = .ok (s.setSramByte a v) := by simp [memWrite, dataCell_sram h h']

/-- A data-space write stops only above RAMEND (20_memory.md R53). -/
theorem memWrite_error {a : Word} {v : Byte} {s : State} {f : Fault} (h : memWrite a v s = .error f) :
    0x8FF < a.toNat ∧ f = .unmappedData a .write := by
  unfold memWrite at h
  rcases dataCell_cases s.cfg a with ⟨_, e⟩ | ⟨_, e⟩ | ⟨_, e⟩ | ⟨_, e⟩ | ⟨_, _, _, _, _, e⟩ | ⟨_, _, e⟩ | ⟨h1, e⟩ <;>
    simp [e] at h
  exact ⟨h1, h.symm⟩

/-- A 5-bit I/O address is always a device's (41_branch.md R179): SPL, SPH and SREG are out of its reach. -/
theorem dataCell_ioAddr5 (c : Config) (a : BitVec 5) : dataCell c (ioAddr5 c a) = .device := by
  simp only [dataCell_eq, ioAddr5, Config.hw_ioOffset]
  revert a; decide

/-! ### The stack -/

theorem push8_cases {v : Byte} {s u : State} (h : push8 v s = .ok u) :
    ∃ w, memWrite s.stackPtr v s = .ok w ∧ u = w.setSp (w.stackPtr - 1) := by
  unfold push8 at h
  split at h
  · exact ⟨_, by assumption, (Except.ok.inj h).symm⟩
  · cases h

theorem pop8_eq (s : State) : pop8 s = memRead (s.trimSp (s.stackPtr + 1)) (s.setSp (s.stackPtr + 1)) := by
  simp [pop8]

/-- PushPC is two pushes: `RET_ADDR_BYTES` is 2 (41_branch.md R161). -/
theorem pushPC_eq (a : ProgAddr) (s : State) :
    pushPC a s =
      match push8 (a.extractLsb' 0 8) s with
      | .ok s => push8 ((a.extractLsb' 8 6).setWidth 8) s
      | .error f => .error f := by
  have e1 : lowByte (a.setWidth 16) = a.extractLsb' 0 8 := by
    refine BitVec.eq_of_getLsbD_eq fun i hi => ?_
    simp only [lowByte, BitVec.getLsbD_extractLsb', BitVec.getLsbD_setWidth]
    simp [show i < 16 by omega]
  have e2 : lowByte (a.setWidth 16 >>> 8) = (a.extractLsb' 8 6).setWidth 8 := by
    refine BitVec.eq_of_getLsbD_eq fun i hi => ?_
    simp only [lowByte, BitVec.getLsbD_extractLsb', BitVec.getLsbD_setWidth, BitVec.getLsbD_ushiftRight]
    by_cases h : i < 6
    · simp [hi, h, show 8 + i < 16 by omega]
    · simp [hi, h, BitVec.getLsbD_of_ge a (8 + i) (by omega)]
  simp only [pushPC, Config.hw_retAddrBytes, pushBytes, e1, e2]
  cases push8 (a.extractLsb' 0 8) s with
  | error f => rfl
  | ok u =>
    simp only
    cases push8 ((a.extractLsb' 8 6).setWidth 8) u <;> rfl

theorem pushPC_cases {a : ProgAddr} {s u : State} (h : pushPC a s = .ok u) :
    ∃ w, push8 (a.extractLsb' 0 8) s = .ok w ∧ push8 ((a.extractLsb' 8 6).setWidth 8) w = .ok u := by
  rw [pushPC_eq] at h
  split at h
  · exact ⟨_, by assumption, h⟩
  · cases h

/-- PopPC is two pops: `RET_ADDR_BYTES` is 2 (41_branch.md R162). -/
theorem popPC_eq (s : State) :
    popPC s =
      match pop8 s with
      | .ok (hi, s) =>
        match pop8 s with
        | .ok (lo, s) => .ok ((ofBytes hi lo).setWidth 14, s)
        | .error f => .error f
      | .error f => .error f := by
  have e (hi lo : Byte) (x : Byte) : ofBytes (lowByte (ofBytes x hi)) lo = ofBytes hi lo := by
    have : lowByte (ofBytes x hi) = hi := by
      refine BitVec.eq_of_getLsbD_eq fun i hi => ?_
      simp only [lowByte, ofBytes, BitVec.getLsbD_extractLsb', BitVec.getLsbD_append]
      simp [hi]
    rw [this]
  simp only [popPC, Config.hw_retAddrBytes, popBytes]
  cases pop8 s with
  | error f => rfl
  | ok p =>
    simp only [e]
    cases pop8 p.2 <;> rfl

theorem popPC_cases {s u : State} {a : ProgAddr} (h : popPC s = .ok (a, u)) :
    ∃ hi w lo, pop8 s = .ok (hi, w) ∧ pop8 w = .ok (lo, u) ∧ a = (ofBytes hi lo).setWidth 14 := by
  rw [popPC_eq] at h
  split at h
  · split at h
    · obtain ⟨rfl, rfl⟩ := Prod.mk.inj (Except.ok.inj h)
      exact ⟨_, _, _, by assumption, by assumption, rfl⟩
    · cases h
  · cases h

/-- A push into SRAM (42_data_transfer.md R211). -/
theorem push8_sram (v : Byte) (s : State) (h : 0x100 ≤ s.stackPtr.toNat) (h' : s.stackPtr.toNat ≤ 0x8FF) :
    push8 v s = .ok ((s.setSramByte s.stackPtr v).setSp (s.stackPtr - 1)) := by
  simp only [push8, memWrite_sram v s h h', State.setSramByte_stackPtr]

/-- A pop from SRAM (42_data_transfer.md R212). -/
theorem pop8_sram (s : State) (h : 0x100 ≤ (s.stackPtr + 1).toNat) (h' : (s.stackPtr + 1).toNat ≤ 0x8FF) :
    pop8 s = .ok (s.sramByte (s.stackPtr + 1), s.setSp (s.stackPtr + 1)) := by
  rw [pop8_eq, State.trimSp_of_lt s (by omega), memRead_sram _ h h']
  rfl

/-! ### Interrupts, reset, the environment -/

theorem takeInterrupt_cases {n : Nat} {s t : State} (h : takeInterrupt n s = .ok t) :
    ∃ u, pushPC s.pc ((s.acknowledge n).setSreg { (s.acknowledge n).sreg with i := false }) = .ok u ∧
      t = { u.setPc (u.vector n) with sleeping := false } := by
  have e : (s.acknowledge n).pc = s.pc := by unfold State.acknowledge; split <;> rfl
  simp only [takeInterrupt, State.setSreg_pc, e] at h
  split at h
  · exact ⟨_, by assumption, (Except.ok.inj h).symm⟩
  · cases h

theorem returnFromInterrupt_cases {s t : State} (h : returnFromInterrupt s = .ok t) :
    ∃ a u, popPC s = .ok (a, u) ∧ t = ((u.setPc a).setSreg { u.sreg with i := true }).inhibitOne := by
  unfold returnFromInterrupt at h
  split at h
  · exact ⟨_, _, by assumption, (Except.ok.inj h).symm⟩
  · cases h

/-- Acknowledging changes nothing but what is pending. -/
theorem acknowledge_eq (s : State) (n : Nat) : s.acknowledge n = { s with pending := (s.acknowledge n).pending } := by
  unfold State.acknowledge; split <;> rfl

/-- What is chosen is a pending vector of 1 to 25. -/
theorem lowestRequest_spec {c : Config} {p : IntSet} {n : Nat} (h : lowestRequest c p = some n) :
    1 ≤ n ∧ n ≤ 25 ∧ p.getLsbD n = true := by
  have h1 := List.mem_of_find?_eq_some h
  have h2 := List.find?_some h
  simp only [List.mem_range'_1, Config.hw_vectorCount] at h1
  exact ⟨h1.1, by omega, h2⟩

theorem interruptDue_some {s : State} {b : Bool} {n : Nat} (h : s.interruptDue b = some n) :
    s.sreg.i = true ∧ b = false ∧ lowestRequest s.cfg s.pending = some n := by
  unfold State.interruptDue at h
  split at h
  · rename_i hc
    simp only [Bool.and_eq_true, Bool.not_eq_true'] at hc
    exact ⟨hc.1, hc.2, h⟩
  · cases h

/-- An action of the environment is its effect on devices and requests, followed by a reset or nothing. -/
theorem applyAction_cases (e : EnvAction) (s : State) :
    applyAction e s = actOnDevices e s ∨
      ∃ src, e.reset = some src ∧ s.cfg.spontaneousReset = true ∧
        applyAction e s = resetEvent src (actOnDevices e s) := by
  unfold applyAction
  split
  · rename_i src hr hs
    exact .inr ⟨src, hr, hs, rfl⟩
  · exact .inl rfl

/-- Everything the environment can do between two instructions (60_exceptions.md R340). -/
theorem envStep_cases (s : State) :
    (s.env = [] ∧ envStep s = s) ∨
    ∃ e rest, s.env = e :: rest ∧ envStep s = applyAction e { s with env := rest } := by
  unfold envStep
  split
  · exact .inl ⟨by assumption, rfl⟩
  · exact .inr ⟨_, _, by assumption, rfl⟩

/-! ### Loads, stores and the other shared meanings -/

theorem load_next {d : Reg} {a : Word} {n : ProgAddr} {s t : State} (h : load d a n s = .next t) :
    ∃ v u, memRead a s = .ok (v, u) ∧ t = (u.setReg d v).advance n := by
  unfold load at h
  split at h
  · exact ⟨_, _, by assumption, (Host.Outcome.next.inj h).symm⟩
  · cases h

theorem loadPostInc_next {m : String} {p : Pointer} {d : Reg} {s t : State} (h : loadPostInc m p d s = .next t) :
    p.owns d = false ∧ ∃ v u, memRead (s.ptr p) s = .ok (v, u) ∧
      t = ((u.setReg d v).setPtr p (s.ptr p + 1)).advance 1 := by
  unfold loadPostInc at h
  split at h
  · cases h
  · rename_i ho
    split at h
    · exact ⟨by simpa using ho, _, _, by assumption, (Host.Outcome.next.inj h).symm⟩
    · cases h

theorem loadPreDec_next {m : String} {p : Pointer} {d : Reg} {s t : State} (h : loadPreDec m p d s = .next t) :
    p.owns d = false ∧ ∃ v u, memRead (s.ptr p - 1) (s.setPtr p (s.ptr p - 1)) = .ok (v, u) ∧
      t = (u.setReg d v).advance 1 := by
  unfold loadPreDec at h
  split at h
  · cases h
  · rename_i ho
    exact ⟨by simpa using ho, load_next h⟩

theorem store_next {a : Word} {v : Byte} {n : ProgAddr} {s t : State} (h : store a v n s = .next t) :
    ∃ u, memWrite a v s = .ok u ∧ t = u.advance n := by
  unfold store at h
  split at h
  · exact ⟨_, by assumption, (Host.Outcome.next.inj h).symm⟩
  · cases h

theorem storePostInc_next {m : String} {p : Pointer} {r : Reg} {s t : State} (h : storePostInc m p r s = .next t) :
    p.owns r = false ∧ ∃ u, memWrite (s.ptr p) (s.reg r) s = .ok u ∧ t = (u.setPtr p (s.ptr p + 1)).advance 1 := by
  unfold storePostInc at h
  split at h
  · cases h
  · rename_i ho
    split at h
    · exact ⟨by simpa using ho, _, by assumption, (Host.Outcome.next.inj h).symm⟩
    · cases h

theorem storePreDec_next {m : String} {p : Pointer} {r : Reg} {s t : State} (h : storePreDec m p r s = .next t) :
    p.owns r = false ∧ ∃ u, memWrite (s.ptr p - 1) (s.reg r) (s.setPtr p (s.ptr p - 1)) = .ok u ∧
      t = u.advance 1 := by
  unfold storePreDec at h
  split at h
  · cases h
  · rename_i ho
    exact ⟨by simpa using ho, store_next h⟩

theorem callTo_next {a b : ProgAddr} {s t : State} (h : callTo a b s = .next t) :
    ∃ u, pushPC b s = .ok u ∧ t = u.setPc a := by
  unfold callTo at h
  split at h
  · exact ⟨_, by assumption, (Host.Outcome.next.inj h).symm⟩
  · cases h

theorem execRet_next {s t : State} (h : execRet s = .next t) : ∃ a u, popPC s = .ok (a, u) ∧ t = u.setPc a := by
  unfold execRet at h
  split at h
  · exact ⟨_, _, by assumption, (Host.Outcome.next.inj h).symm⟩
  · cases h

theorem finish_next {e : Except Fault State} {t : State} (h : finish e = .next t) : e = .ok t := by
  unfold finish at h
  split at h
  · rw [Host.Outcome.next.inj h]
  · cases h

theorem execPush_next {r : Reg} {s t : State} (h : execPush r s = .next t) :
    ∃ u, push8 (s.reg r) s = .ok u ∧ t = u.advance 1 := by
  unfold execPush at h
  split at h
  · exact ⟨_, by assumption, (Host.Outcome.next.inj h).symm⟩
  · cases h

theorem execPop_next {d : Reg} {s t : State} (h : execPop d s = .next t) :
    ∃ v u, pop8 s = .ok (v, u) ∧ t = (u.setReg d v).advance 1 := by
  unfold execPop at h
  split at h
  · exact ⟨_, _, by assumption, (Host.Outcome.next.inj h).symm⟩
  · cases h

/-- SBIC and SBIS read their device once and never fault. -/
theorem skipOnIO_eq (a : BitVec 5) (b : BitPos) (x : Bool) (s : State) :
    skipOnIO a b x s =
      .next (skip ((s.deviceByte (ioAddr5 s.cfg a)).getLsbD b == x) (s.deviceAfterRead (ioAddr5 s.cfg a))) := by
  simp [skipOnIO, memRead, dataCell_ioAddr5]

/-- SBI and CBI read their device once, write it once, and never fault. -/
theorem modifyIO_eq (a : BitVec 5) (f : Byte → Byte) (s : State) :
    modifyIO a f s =
      .next (((s.deviceAfterRead (ioAddr5 s.cfg a)).deviceWrite (ioAddr5 s.cfg a) (f (s.deviceByte (ioAddr5 s.cfg a)))).advance 1) := by
  simp [modifyIO, store, memRead, memWrite, dataCell_ioAddr5]

theorem loadProgram_next {d : Reg} {s t : State} (h : loadProgram d s = .next t) :
    (s.ptr .z).toNat / 2 ≤ s.cfg.hw.flashEnd ∧ t = (s.setReg d (s.progByte ((s.ptr .z).setWidth 15))).advance 1 := by
  unfold loadProgram progRead at h
  split_ifs at h with hb
  cases h
  exact ⟨by simpa using hb, rfl⟩

theorem execLpmZInc_next {d : Reg} {s t : State} (h : execLpmZInc d s = .next t) :
    Pointer.z.owns d = false ∧ (s.ptr .z).toNat / 2 ≤ s.cfg.hw.flashEnd ∧
      t = ((s.setReg d (s.progByte ((s.ptr .z).setWidth 15))).setPtr .z (s.ptr .z + 1)).advance 1 := by
  unfold execLpmZInc progRead at h
  split_ifs at h with ho hb
  cases h
  exact ⟨by simpa using ho, by simpa using hb, rfl⟩

/-- A skip and a branch only move the pc. -/
theorem skip_eq (c : Bool) (s : State) : skip c s = s.setPc (skip c s).pc := by unfold skip; split <;> rfl

theorem branchIf_eq (c : Bool) (k : BitVec 7) (s : State) : branchIf c k s = s.setPc (branchIf c k s).pc := by
  unfold branchIf; split <;> rfl

/-! ### Fetch and the step -/

/-- A fetch is the decoder's: the part provides every instruction of the table. -/
theorem fetch_eq (s : State) :
    fetch s =
      match decodeWords (s.progWord s.pc) (s.progWord (s.pc + 1)) with
      | some i => .ok i
      | none => .error (.illegalInstruction (s.progWord s.pc) s.pc) := by
  cases h : decodeWords (s.progWord s.pc) (s.progWord (s.pc + 1)) <;>
    simp only [fetch, h, Config.provides_eq_true, if_true]

theorem fetch_ok {s : State} {i : Instr} (h : fetch s = .ok i) :
    decodeWords (s.progWord s.pc) (s.progWord (s.pc + 1)) = some i := by
  rw [fetch_eq] at h
  split at h
  · rw [← Except.ok.inj h]; assumption
  · cases h

/-- Everything a step can do, if it answers a next state (60_exceptions.md R340): an interrupt entry, an idle step of a
sleeping CPU, or one instruction. -/
theorem step_cases {s t : State} (h : step s = .next t) :
    (∃ n u, State.interruptDue { envStep s with inhibit := false } (envStep s).inhibit = some n ∧
      takeInterrupt n { envStep s with inhibit := false } = .ok u ∧
      t = u.tick (entryClocks { envStep s with inhibit := false })) ∨
    (State.interruptDue { envStep s with inhibit := false } (envStep s).inhibit = none ∧
      (envStep s).sleeping = true ∧ t = { envStep s with inhibit := false }) ∨
    (∃ i u, State.interruptDue { envStep s with inhibit := false } (envStep s).inhibit = none ∧
      (envStep s).sleeping = false ∧ fetch { envStep s with inhibit := false } = .ok i ∧
      exec i { envStep s with inhibit := false } = .next u ∧
      t = u.tick (clocks i { envStep s with inhibit := false })) := by
  simp only [step, cpuStep] at h
  split at h
  · rename_i n hn
    unfold enterInterrupt at h
    split at h
    · exact .inl ⟨n, _, hn, by assumption, (Host.Outcome.next.inj h).symm⟩
    · cases h
  · rename_i hn
    split_ifs at h with hs
    · exact .inr (.inl ⟨hn, hs, (Host.Outcome.next.inj h).symm⟩)
    · unfold runInstr at h
      split at h
      · cases h
      · rename_i i hi
        split at h
        · exact .inr (.inr ⟨i, _, hn, by simpa using hs, hi, by assumption, (Host.Outcome.next.inj h).symm⟩)
        · cases h
        · cases h

end Sys2Proof.Machine
end

