-- ==== Sys2Proof/Laws/Exec.lean ====
section
/-!
SUPPORT. Everything an instruction can do, said once: `Did` lists the twenty-one shapes of a next state, and `exec_did`
says that every instruction that completes does one of them, with what it names in Safety.lean's `destinations`,
`flagsListed`, `storedAddrs` and `movesSp`. Proofs over all instructions take these cases and do not unfold `exec`.
-/

namespace Sys2Proof.Machine

/-! ### Which flags each flag function leaves -/

/-- A flag outside the list `L` is kept, if each flag is in `L` or kept. -/
theorem get_of_kept {r r' : Sreg} {L : List BitPos} (h0 : 0 ∈ L ∨ r'.c = r.c) (h1 : 1 ∈ L ∨ r'.z = r.z)
    (h2 : 2 ∈ L ∨ r'.n = r.n) (h3 : 3 ∈ L ∨ r'.v = r.v) (h4 : 4 ∈ L ∨ r'.s = r.s) (h5 : 5 ∈ L ∨ r'.h = r.h)
    (h6 : 6 ∈ L ∨ r'.t = r.t) (h7 : 7 ∈ L ∨ r'.i = r.i) : ∀ f, f ∉ L → r'.get f = r.get f := by
  intro f hf
  match f with
  | 0 => exact h0.resolve_left hf
  | 1 => exact h1.resolve_left hf
  | 2 => exact h2.resolve_left hf
  | 3 => exact h3.resolve_left hf
  | 4 => exact h4.resolve_left hf
  | 5 => exact h5.resolve_left hf
  | 6 => exact h6.resolve_left hf
  | 7 => exact h7.resolve_left hf

theorem one_get (n : BitPos) (r r' : Sreg) (h0 : n = 0 ∨ r'.c = r.c) (h1 : n = 1 ∨ r'.z = r.z)
    (h2 : n = 2 ∨ r'.n = r.n) (h3 : n = 3 ∨ r'.v = r.v) (h4 : n = 4 ∨ r'.s = r.s) (h5 : n = 5 ∨ r'.h = r.h)
    (h6 : n = 6 ∨ r'.t = r.t) (h7 : n = 7 ∨ r'.i = r.i) : ∀ f, f ∉ [n] → r'.get f = r.get f := by
  refine get_of_kept ?_ ?_ ?_ ?_ ?_ ?_ ?_ ?_ <;> simp only [List.mem_singleton] <;>
    [exact h0.imp_left .symm; exact h1.imp_left .symm; exact h2.imp_left .symm; exact h3.imp_left .symm;
     exact h4.imp_left .symm; exact h5.imp_left .symm; exact h6.imp_left .symm; exact h7.imp_left .symm]

theorem addFlags_get (a b : Byte) (cin : Bool) (r : Sreg) :
    ∀ f, f ∉ [0, 1, 2, 3, 4, 5] → (addFlags a b cin r).get f = r.get f :=
  get_of_kept (.inl (by decide)) (.inl (by decide)) (.inl (by decide)) (.inl (by decide)) (.inl (by decide))
    (.inl (by decide)) (.inr rfl) (.inr rfl)

theorem subFlags_get (a b : Byte) (cin keepZ : Bool) (r : Sreg) :
    ∀ f, f ∉ [0, 1, 2, 3, 4, 5] → (subFlags a b cin keepZ r).get f = r.get f :=
  get_of_kept (.inl (by decide)) (.inl (by decide)) (.inl (by decide)) (.inl (by decide)) (.inl (by decide))
    (.inl (by decide)) (.inr rfl) (.inr rfl)

theorem logicFlags_get (res : Byte) (r : Sreg) : ∀ f, f ∉ [1, 2, 3, 4] → (logicFlags res r).get f = r.get f :=
  get_of_kept (.inr rfl) (.inl (by decide)) (.inl (by decide)) (.inl (by decide)) (.inl (by decide)) (.inr rfl)
    (.inr rfl) (.inr rfl)

theorem comFlags_get (res : Byte) (r : Sreg) : ∀ f, f ∉ [0, 1, 2, 3, 4] → (comFlags res r).get f = r.get f :=
  get_of_kept (.inl (by decide)) (.inl (by decide)) (.inl (by decide)) (.inl (by decide)) (.inl (by decide)) (.inr rfl)
    (.inr rfl) (.inr rfl)

theorem adiwFlags_get (a res : Word) (r : Sreg) : ∀ f, f ∉ [0, 1, 2, 3, 4] → (adiwFlags a res r).get f = r.get f :=
  get_of_kept (.inl (by decide)) (.inl (by decide)) (.inl (by decide)) (.inl (by decide)) (.inl (by decide)) (.inr rfl)
    (.inr rfl) (.inr rfl)

theorem sbiwFlags_get (a res : Word) (r : Sreg) : ∀ f, f ∉ [0, 1, 2, 3, 4] → (sbiwFlags a res r).get f = r.get f :=
  get_of_kept (.inl (by decide)) (.inl (by decide)) (.inl (by decide)) (.inl (by decide)) (.inl (by decide)) (.inr rfl)
    (.inr rfl) (.inr rfl)

theorem mulFlags_get (p res : Word) (r : Sreg) : ∀ f, f ∉ [0, 1] → (mulFlags p res r).get f = r.get f :=
  get_of_kept (.inl (by decide)) (.inl (by decide)) (.inr rfl) (.inr rfl) (.inr rfl) (.inr rfl) (.inr rfl) (.inr rfl)

theorem incFlags_get (res : Byte) (r : Sreg) : ∀ f, f ∉ [1, 2, 3, 4] → (incFlags res r).get f = r.get f :=
  get_of_kept (.inr rfl) (.inl (by decide)) (.inl (by decide)) (.inl (by decide)) (.inl (by decide)) (.inr rfl)
    (.inr rfl) (.inr rfl)

theorem decFlags_get (res : Byte) (r : Sreg) : ∀ f, f ∉ [1, 2, 3, 4] → (decFlags res r).get f = r.get f :=
  get_of_kept (.inr rfl) (.inl (by decide)) (.inl (by decide)) (.inl (by decide)) (.inl (by decide)) (.inr rfl)
    (.inr rfl) (.inr rfl)

theorem clr_get (r : Sreg) :
    ∀ f, f ∉ [1, 2, 3, 4] → ({ r with s := false, v := false, n := false, z := true } : Sreg).get f = r.get f :=
  get_of_kept (.inr rfl) (.inl (by decide)) (.inl (by decide)) (.inl (by decide)) (.inl (by decide)) (.inr rfl)
    (.inr rfl) (.inr rfl)

theorem shiftRightFlags_get (a res : Byte) (r : Sreg) :
    ∀ f, f ∉ [0, 1, 2, 3, 4] → (shiftRightFlags a res r).get f = r.get f :=
  get_of_kept (.inl (by decide)) (.inl (by decide)) (.inl (by decide)) (.inl (by decide)) (.inl (by decide)) (.inr rfl)
    (.inr rfl) (.inr rfl)

/-! ### The shapes of a next state -/

/-- What the instruction `i` did in going from `s` to `t`. -/
inductive Did (i : Instr) (s t : State) : Prop
  | endReg (d : Reg) (v : Byte) (r : Sreg) (e : t = ((s.setReg d v).setSreg r).advance 1) (hd : d ∈ destinations i)
      (hf : ∀ f, f ∉ flagsListed i → r.get f = s.sreg.get f) (hi : r.i = s.sreg.i)
  | endPair (d : Reg) (v : Word) (r : Sreg) (e : t = ((s.setPair d v).setSreg r).advance 1) (hd : d ∈ destinations i)
      (hd' : d + 1 ∈ destinations i) (hf : ∀ f, f ∉ flagsListed i → r.get f = s.sreg.get f) (hi : r.i = s.sreg.i)
  | endFlags (r : Sreg) (e : t = (s.setSreg r).advance 1)
      (hf : ∀ f, f ∉ flagsListed i → r.get f = s.sreg.get f) (hi : r.i = true → s.sreg.i = true)
  | writeFlag (f : BitPos) (x : Bool) (e : t = (s.writeFlag f x).advance 1) (hf : f ∈ flagsListed i)
  | pc (a : ProgAddr) (e : t = s.setPc a)
  | load (d : Reg) (a : Word) (n : ProgAddr) (v : Byte) (u : State) (h : memRead a s = .ok (v, u))
      (e : t = (u.setReg d v).advance n) (hd : d ∈ destinations i)
  | loadInc (p : Pointer) (d : Reg) (v : Byte) (u : State) (h : memRead (s.ptr p) s = .ok (v, u))
      (e : t = ((u.setReg d v).setPtr p (s.ptr p + 1)).advance 1) (hd : d ∈ destinations i)
      (hp : p.low ∈ destinations i) (hp' : p.low + 1 ∈ destinations i)
  | loadDec (p : Pointer) (d : Reg) (v : Byte) (u : State)
      (h : memRead (s.ptr p - 1) (s.setPtr p (s.ptr p - 1)) = .ok (v, u)) (e : t = (u.setReg d v).advance 1)
      (hd : d ∈ destinations i) (hp : p.low ∈ destinations i) (hp' : p.low + 1 ∈ destinations i)
  | store (a : Word) (v : Byte) (n : ProgAddr) (u : State) (h : memWrite a v s = .ok u) (e : t = u.advance n)
      (ha : a ∈ storedAddrs i s)
  | storeInc (p : Pointer) (v : Byte) (u : State) (h : memWrite (s.ptr p) v s = .ok u)
      (e : t = (u.setPtr p (s.ptr p + 1)).advance 1) (ha : s.ptr p ∈ storedAddrs i s)
      (hp : p.low ∈ destinations i) (hp' : p.low + 1 ∈ destinations i)
  | storeDec (p : Pointer) (v : Byte) (u : State)
      (h : memWrite (s.ptr p - 1) v (s.setPtr p (s.ptr p - 1)) = .ok u) (e : t = u.advance 1)
      (ha : s.ptr p - 1 ∈ storedAddrs i s) (hp : p.low ∈ destinations i) (hp' : p.low + 1 ∈ destinations i)
  | call (r a : ProgAddr) (u w : State) (h1 : push8 (r.extractLsb' 0 8) s = .ok u)
      (h2 : push8 ((r.extractLsb' 8 6).setWidth 8) u = .ok w) (e : t = w.setPc a)
      (ha : storedAddrs i s = [s.stackPtr, u.stackPtr]) (hs : movesSp i = true)
  | ret (a : ProgAddr) (u : State) (h : popPC s = .ok (a, u)) (e : t = u.setPc a) (hs : movesSp i = true)
  | reti (a : ProgAddr) (u : State) (h : popPC s = .ok (a, u))
      (e : t = ((u.setPc a).setSreg { u.sreg with i := true }).inhibitOne) (hi : i = .reti)
  | push (v : Byte) (u : State) (h : push8 v s = .ok u) (e : t = u.advance 1)
      (ha : s.stackPtr ∈ storedAddrs i s) (hs : movesSp i = true)
  | pop (d : Reg) (v : Byte) (u : State) (h : pop8 s = .ok (v, u)) (e : t = (u.setReg d v).advance 1)
      (hd : d ∈ destinations i) (hs : movesSp i = true)
  | skipIO (a : BitVec 5) (b : ProgAddr) (e : t = (s.deviceAfterRead (ioAddr5 s.cfg a)).setPc b)
  | modIO (a : BitVec 5) (v : Byte)
      (e : t = ((s.deviceAfterRead (ioAddr5 s.cfg a)).deviceWrite (ioAddr5 s.cfg a) v).advance 1) (ha : ioAddr5 s.cfg a ∈ storedAddrs i s)
  | lpmInc (d : Reg) (v : Byte) (e : t = ((s.setReg d v).setPtr .z (s.ptr .z + 1)).advance 1) (hi : i = .lpmZInc d)
  | sleep (b : Bool) (e : t = { s.advance 1 with sleeping := b }) (hi : i = .sleep)
  | wdr (e : t = s.deviceWdr.advance 1)

theorem did_call {i : Instr} {a r : ProgAddr} {s t : State} (h : callTo a r s = .next t)
    (hst : storedAddrs i s = pushedAddrs r s) (hs : movesSp i = true) : Did i s t := by
  obtain ⟨u, hu, rfl⟩ := callTo_next h
  obtain ⟨w, h1, h2⟩ := pushPC_cases hu
  exact .call r a w u h1 h2 rfl (by simp [hst, pushedAddrs, h1]) hs

theorem execBrk_next {s t : State} (h : execBrk s = .next t) : t = s.advance 1 := by
  unfold execBrk at h
  split at h
  · cases h
  · exact (Host.Outcome.next.inj h).symm

/-- Every instruction that completes does one of the things `Did` lists. -/
theorem exec_did {i : Instr} {s t : State} (h : exec i s = .next t) : Did i s t := by
  cases i with
  | add d r =>
    obtain rfl := Host.Outcome.next.inj h
    exact .endReg _ _ _ rfl List.mem_cons_self (addFlags_get _ _ _ _) rfl
  | adc d r =>
    obtain rfl := Host.Outcome.next.inj h
    exact .endReg _ _ _ rfl List.mem_cons_self (addFlags_get _ _ _ _) rfl
  | adiw d k =>
    obtain rfl := Host.Outcome.next.inj h
    exact .endPair _ _ _ rfl List.mem_cons_self (List.mem_cons_of_mem _ List.mem_cons_self) (adiwFlags_get _ _ _) rfl
  | sub d r =>
    obtain rfl := Host.Outcome.next.inj h
    exact .endReg _ _ _ rfl List.mem_cons_self (subFlags_get _ _ _ _ _) rfl
  | subi d k =>
    obtain rfl := Host.Outcome.next.inj h
    exact .endReg _ _ _ rfl List.mem_cons_self (subFlags_get _ _ _ _ _) rfl
  | sbc d r =>
    obtain rfl := Host.Outcome.next.inj h
    exact .endReg _ _ _ rfl List.mem_cons_self (subFlags_get _ _ _ _ _) rfl
  | sbci d k =>
    obtain rfl := Host.Outcome.next.inj h
    exact .endReg _ _ _ rfl List.mem_cons_self (subFlags_get _ _ _ _ _) rfl
  | sbiw d k =>
    obtain rfl := Host.Outcome.next.inj h
    exact .endPair _ _ _ rfl List.mem_cons_self (List.mem_cons_of_mem _ List.mem_cons_self) (sbiwFlags_get _ _ _) rfl
  | and d r =>
    obtain rfl := Host.Outcome.next.inj h
    exact .endReg _ _ _ rfl List.mem_cons_self (logicFlags_get _ _) rfl
  | andi d k =>
    obtain rfl := Host.Outcome.next.inj h
    exact .endReg _ _ _ rfl List.mem_cons_self (logicFlags_get _ _) rfl
  | or d r =>
    obtain rfl := Host.Outcome.next.inj h
    exact .endReg _ _ _ rfl List.mem_cons_self (logicFlags_get _ _) rfl
  | ori d k =>
    obtain rfl := Host.Outcome.next.inj h
    exact .endReg _ _ _ rfl List.mem_cons_self (logicFlags_get _ _) rfl
  | eor d r =>
    obtain rfl := Host.Outcome.next.inj h
    exact .endReg _ _ _ rfl List.mem_cons_self (logicFlags_get _ _) rfl
  | com d =>
    obtain rfl := Host.Outcome.next.inj h
    exact .endReg _ _ _ rfl List.mem_cons_self (comFlags_get _ _) rfl
  | neg d =>
    obtain rfl := Host.Outcome.next.inj h
    exact .endReg _ _ _ rfl List.mem_cons_self (subFlags_get _ _ _ _ _) rfl
  | sbr d k =>
    obtain rfl := Host.Outcome.next.inj h
    exact .endReg _ _ _ rfl List.mem_cons_self (logicFlags_get _ _) rfl
  | cbr d k =>
    obtain rfl := Host.Outcome.next.inj h
    exact .endReg _ _ _ rfl List.mem_cons_self (logicFlags_get _ _) rfl
  | inc d =>
    obtain rfl := Host.Outcome.next.inj h
    exact .endReg _ _ _ rfl List.mem_cons_self (incFlags_get _ _) rfl
  | dec d =>
    obtain rfl := Host.Outcome.next.inj h
    exact .endReg _ _ _ rfl List.mem_cons_self (decFlags_get _ _) rfl
  | tst d =>
    obtain rfl := Host.Outcome.next.inj h
    exact .endReg _ _ _ rfl List.mem_cons_self (logicFlags_get _ _) rfl
  | clr d =>
    obtain rfl := Host.Outcome.next.inj h
    exact .endReg _ _ _ rfl List.mem_cons_self (clr_get _) rfl
  | ser d =>
    obtain rfl := Host.Outcome.next.inj h
    exact .endReg _ _ _ rfl List.mem_cons_self (fun _ _ => rfl) rfl
  | mul d r =>
    obtain rfl := Host.Outcome.next.inj h
    exact .endPair _ _ _ rfl List.mem_cons_self (List.mem_cons_of_mem _ List.mem_cons_self) (mulFlags_get _ _ _) rfl
  | muls d r =>
    obtain rfl := Host.Outcome.next.inj h
    exact .endPair _ _ _ rfl List.mem_cons_self (List.mem_cons_of_mem _ List.mem_cons_self) (mulFlags_get _ _ _) rfl
  | mulsu d r =>
    obtain rfl := Host.Outcome.next.inj h
    exact .endPair _ _ _ rfl List.mem_cons_self (List.mem_cons_of_mem _ List.mem_cons_self) (mulFlags_get _ _ _) rfl
  | fmul d r =>
    obtain rfl := Host.Outcome.next.inj h
    exact .endPair _ _ _ rfl List.mem_cons_self (List.mem_cons_of_mem _ List.mem_cons_self) (mulFlags_get _ _ _) rfl
  | fmuls d r =>
    obtain rfl := Host.Outcome.next.inj h
    exact .endPair _ _ _ rfl List.mem_cons_self (List.mem_cons_of_mem _ List.mem_cons_self) (mulFlags_get _ _ _) rfl
  | fmulsu d r =>
    obtain rfl := Host.Outcome.next.inj h
    exact .endPair _ _ _ rfl List.mem_cons_self (List.mem_cons_of_mem _ List.mem_cons_self) (mulFlags_get _ _ _) rfl
  | rjmp k =>
    obtain rfl := Host.Outcome.next.inj h
    exact .pc _ rfl
  | ijmp =>
    obtain rfl := Host.Outcome.next.inj h
    exact .pc _ rfl
  | jmp k =>
    obtain rfl := Host.Outcome.next.inj h
    exact .pc _ rfl
  | rcall k =>
    exact did_call h rfl rfl
  | icall =>
    exact did_call h rfl rfl
  | call k =>
    exact did_call h rfl rfl
  | ret =>
    obtain ⟨a, u, hp, rfl⟩ := execRet_next h
    exact .ret _ _ hp rfl rfl
  | reti =>
    obtain ⟨a, u, hp, rfl⟩ := returnFromInterrupt_cases (finish_next h)
    exact .reti _ _ hp rfl rfl
  | cpse d r =>
    obtain rfl := Host.Outcome.next.inj h
    exact .pc _ (skip_eq _ _)
  | cp d r =>
    obtain rfl := Host.Outcome.next.inj h
    exact .endFlags _ rfl (subFlags_get _ _ _ _ _) id
  | cpc d r =>
    obtain rfl := Host.Outcome.next.inj h
    exact .endFlags _ rfl (subFlags_get _ _ _ _ _) id
  | cpi d k =>
    obtain rfl := Host.Outcome.next.inj h
    exact .endFlags _ rfl (subFlags_get _ _ _ _ _) id
  | sbrc r b =>
    obtain rfl := Host.Outcome.next.inj h
    exact .pc _ (skip_eq _ _)
  | sbrs r b =>
    obtain rfl := Host.Outcome.next.inj h
    exact .pc _ (skip_eq _ _)
  | sbic a b =>
    obtain rfl := Host.Outcome.next.inj ((skipOnIO_eq a b false s).symm.trans h)
    exact .skipIO _ _ (skip_eq _ _)
  | sbis a b =>
    obtain rfl := Host.Outcome.next.inj ((skipOnIO_eq a b true s).symm.trans h)
    exact .skipIO _ _ (skip_eq _ _)
  | brbs f k =>
    obtain rfl := Host.Outcome.next.inj h
    exact .pc _ (branchIf_eq _ _ _)
  | brbc f k =>
    obtain rfl := Host.Outcome.next.inj h
    exact .pc _ (branchIf_eq _ _ _)
  | breq k =>
    obtain rfl := Host.Outcome.next.inj h
    exact .pc _ (branchIf_eq _ _ _)
  | brne k =>
    obtain rfl := Host.Outcome.next.inj h
    exact .pc _ (branchIf_eq _ _ _)
  | brcs k =>
    obtain rfl := Host.Outcome.next.inj h
    exact .pc _ (branchIf_eq _ _ _)
  | brcc k =>
    obtain rfl := Host.Outcome.next.inj h
    exact .pc _ (branchIf_eq _ _ _)
  | brsh k =>
    obtain rfl := Host.Outcome.next.inj h
    exact .pc _ (branchIf_eq _ _ _)
  | brlo k =>
    obtain rfl := Host.Outcome.next.inj h
    exact .pc _ (branchIf_eq _ _ _)
  | brmi k =>
    obtain rfl := Host.Outcome.next.inj h
    exact .pc _ (branchIf_eq _ _ _)
  | brpl k =>
    obtain rfl := Host.Outcome.next.inj h
    exact .pc _ (branchIf_eq _ _ _)
  | brge k =>
    obtain rfl := Host.Outcome.next.inj h
    exact .pc _ (branchIf_eq _ _ _)
  | brlt k =>
    obtain rfl := Host.Outcome.next.inj h
    exact .pc _ (branchIf_eq _ _ _)
  | brhs k =>
    obtain rfl := Host.Outcome.next.inj h
    exact .pc _ (branchIf_eq _ _ _)
  | brhc k =>
    obtain rfl := Host.Outcome.next.inj h
    exact .pc _ (branchIf_eq _ _ _)
  | brts k =>
    obtain rfl := Host.Outcome.next.inj h
    exact .pc _ (branchIf_eq _ _ _)
  | brtc k =>
    obtain rfl := Host.Outcome.next.inj h
    exact .pc _ (branchIf_eq _ _ _)
  | brvs k =>
    obtain rfl := Host.Outcome.next.inj h
    exact .pc _ (branchIf_eq _ _ _)
  | brvc k =>
    obtain rfl := Host.Outcome.next.inj h
    exact .pc _ (branchIf_eq _ _ _)
  | brie k =>
    obtain rfl := Host.Outcome.next.inj h
    exact .pc _ (branchIf_eq _ _ _)
  | brid k =>
    obtain rfl := Host.Outcome.next.inj h
    exact .pc _ (branchIf_eq _ _ _)
  | mov d r =>
    obtain rfl := Host.Outcome.next.inj h
    exact .endReg _ _ _ rfl List.mem_cons_self (fun _ _ => rfl) rfl
  | movw d r =>
    obtain rfl := Host.Outcome.next.inj h
    exact .endPair _ _ _ rfl List.mem_cons_self (List.mem_cons_of_mem _ List.mem_cons_self) (fun _ _ => rfl) rfl
  | ldi d k =>
    obtain rfl := Host.Outcome.next.inj h
    exact .endReg _ _ _ rfl List.mem_cons_self (fun _ _ => rfl) rfl
  | ldX d =>
    obtain ⟨v, u, hr, rfl⟩ := load_next h
    exact .load _ _ _ _ _ hr rfl List.mem_cons_self
  | ldXInc d =>
    obtain ⟨-, v, u, hr, rfl⟩ := loadPostInc_next h
    exact .loadInc .x _ _ _ hr rfl List.mem_cons_self (List.mem_cons_of_mem _ (by decide)) (List.mem_cons_of_mem _ (by decide))
  | ldXDec d =>
    obtain ⟨-, v, u, hr, rfl⟩ := loadPreDec_next h
    exact .loadDec .x _ _ _ hr rfl List.mem_cons_self (List.mem_cons_of_mem _ (by decide)) (List.mem_cons_of_mem _ (by decide))
  | ldY d =>
    obtain ⟨v, u, hr, rfl⟩ := load_next h
    exact .load _ _ _ _ _ hr rfl List.mem_cons_self
  | ldYInc d =>
    obtain ⟨-, v, u, hr, rfl⟩ := loadPostInc_next h
    exact .loadInc .y _ _ _ hr rfl List.mem_cons_self (List.mem_cons_of_mem _ (by decide)) (List.mem_cons_of_mem _ (by decide))
  | ldYDec d =>
    obtain ⟨-, v, u, hr, rfl⟩ := loadPreDec_next h
    exact .loadDec .y _ _ _ hr rfl List.mem_cons_self (List.mem_cons_of_mem _ (by decide)) (List.mem_cons_of_mem _ (by decide))
  | lddY d q =>
    obtain ⟨v, u, hr, rfl⟩ := load_next h
    exact .load _ _ _ _ _ hr rfl List.mem_cons_self
  | ldZ d =>
    obtain ⟨v, u, hr, rfl⟩ := load_next h
    exact .load _ _ _ _ _ hr rfl List.mem_cons_self
  | ldZInc d =>
    obtain ⟨-, v, u, hr, rfl⟩ := loadPostInc_next h
    exact .loadInc .z _ _ _ hr rfl List.mem_cons_self (List.mem_cons_of_mem _ (by decide)) (List.mem_cons_of_mem _ (by decide))
  | ldZDec d =>
    obtain ⟨-, v, u, hr, rfl⟩ := loadPreDec_next h
    exact .loadDec .z _ _ _ hr rfl List.mem_cons_self (List.mem_cons_of_mem _ (by decide)) (List.mem_cons_of_mem _ (by decide))
  | lddZ d q =>
    obtain ⟨v, u, hr, rfl⟩ := load_next h
    exact .load _ _ _ _ _ hr rfl List.mem_cons_self
  | lds d k =>
    obtain ⟨v, u, hr, rfl⟩ := load_next h
    exact .load _ _ _ _ _ hr rfl List.mem_cons_self
  | stX r =>
    obtain ⟨u, hw, rfl⟩ := store_next h
    exact .store _ _ _ _ hw rfl List.mem_cons_self
  | stXInc r =>
    obtain ⟨-, u, hw, rfl⟩ := storePostInc_next h
    exact .storeInc .x _ _ hw rfl List.mem_cons_self List.mem_cons_self (List.mem_cons_of_mem _ List.mem_cons_self)
  | stXDec r =>
    obtain ⟨-, u, hw, rfl⟩ := storePreDec_next h
    exact .storeDec .x _ _ hw rfl List.mem_cons_self List.mem_cons_self (List.mem_cons_of_mem _ List.mem_cons_self)
  | stY r =>
    obtain ⟨u, hw, rfl⟩ := store_next h
    exact .store _ _ _ _ hw rfl List.mem_cons_self
  | stYInc r =>
    obtain ⟨-, u, hw, rfl⟩ := storePostInc_next h
    exact .storeInc .y _ _ hw rfl List.mem_cons_self List.mem_cons_self (List.mem_cons_of_mem _ List.mem_cons_self)
  | stYDec r =>
    obtain ⟨-, u, hw, rfl⟩ := storePreDec_next h
    exact .storeDec .y _ _ hw rfl List.mem_cons_self List.mem_cons_self (List.mem_cons_of_mem _ List.mem_cons_self)
  | stdY q r =>
    obtain ⟨u, hw, rfl⟩ := store_next h
    exact .store _ _ _ _ hw rfl List.mem_cons_self
  | stZ r =>
    obtain ⟨u, hw, rfl⟩ := store_next h
    exact .store _ _ _ _ hw rfl List.mem_cons_self
  | stZInc r =>
    obtain ⟨-, u, hw, rfl⟩ := storePostInc_next h
    exact .storeInc .z _ _ hw rfl List.mem_cons_self List.mem_cons_self (List.mem_cons_of_mem _ List.mem_cons_self)
  | stZDec r =>
    obtain ⟨-, u, hw, rfl⟩ := storePreDec_next h
    exact .storeDec .z _ _ hw rfl List.mem_cons_self List.mem_cons_self (List.mem_cons_of_mem _ List.mem_cons_self)
  | stdZ q r =>
    obtain ⟨u, hw, rfl⟩ := store_next h
    exact .store _ _ _ _ hw rfl List.mem_cons_self
  | sts k r =>
    obtain ⟨u, hw, rfl⟩ := store_next h
    exact .store _ _ _ _ hw rfl List.mem_cons_self
  | lpm =>
    obtain ⟨-, rfl⟩ := loadProgram_next h
    exact .endReg _ _ s.sreg rfl List.mem_cons_self (fun _ _ => rfl) rfl
  | lpmZ d =>
    obtain ⟨-, rfl⟩ := loadProgram_next h
    exact .endReg _ _ s.sreg rfl List.mem_cons_self (fun _ _ => rfl) rfl
  | lpmZInc d =>
    obtain ⟨-, -, rfl⟩ := execLpmZInc_next h
    exact .lpmInc _ _ rfl rfl
  | spm =>
    cases h
  | inp d a =>
    obtain ⟨v, u, hr, rfl⟩ := load_next h
    exact .load _ _ _ _ _ hr rfl List.mem_cons_self
  | out a r =>
    obtain ⟨u, hw, rfl⟩ := store_next h
    exact .store _ _ _ _ hw rfl List.mem_cons_self
  | push r =>
    obtain ⟨u, hp, rfl⟩ := execPush_next h
    exact .push _ _ hp rfl List.mem_cons_self rfl
  | pop d =>
    obtain ⟨v, u, hp, rfl⟩ := execPop_next h
    exact .pop _ _ _ hp rfl List.mem_cons_self rfl
  | sbi a b =>
    obtain rfl := Host.Outcome.next.inj ((modifyIO_eq a _ s).symm.trans h)
    exact .modIO _ _ rfl List.mem_cons_self
  | cbi a b =>
    obtain rfl := Host.Outcome.next.inj ((modifyIO_eq a _ s).symm.trans h)
    exact .modIO _ _ rfl List.mem_cons_self
  | lsl d =>
    obtain rfl := Host.Outcome.next.inj h
    exact .endReg _ _ _ rfl List.mem_cons_self (addFlags_get _ _ _ _) rfl
  | lsr d =>
    obtain rfl := Host.Outcome.next.inj h
    exact .endReg _ _ _ rfl List.mem_cons_self (shiftRightFlags_get _ _ _) rfl
  | rol d =>
    obtain rfl := Host.Outcome.next.inj h
    exact .endReg _ _ _ rfl List.mem_cons_self (addFlags_get _ _ _ _) rfl
  | ror d =>
    obtain rfl := Host.Outcome.next.inj h
    exact .endReg _ _ _ rfl List.mem_cons_self (shiftRightFlags_get _ _ _) rfl
  | asr d =>
    obtain rfl := Host.Outcome.next.inj h
    exact .endReg _ _ _ rfl List.mem_cons_self (shiftRightFlags_get _ _ _) rfl
  | swap d =>
    obtain rfl := Host.Outcome.next.inj h
    exact .endReg _ _ _ rfl List.mem_cons_self (fun _ _ => rfl) rfl
  | bst r b =>
    obtain rfl := Host.Outcome.next.inj h
    exact .endFlags _ rfl (one_get 6 _ _ (.inr rfl) (.inr rfl) (.inr rfl) (.inr rfl) (.inr rfl) (.inr rfl) (.inl rfl) (.inr rfl)) id
  | bld d b =>
    obtain rfl := Host.Outcome.next.inj h
    exact .endReg _ _ _ rfl List.mem_cons_self (fun _ _ => rfl) rfl
  | bset f =>
    obtain rfl := Host.Outcome.next.inj h
    exact .writeFlag f true rfl List.mem_cons_self
  | bclr f =>
    obtain rfl := Host.Outcome.next.inj h
    exact .writeFlag f false rfl List.mem_cons_self
  | sec =>
    obtain rfl := Host.Outcome.next.inj h
    exact .endFlags _ rfl (one_get 0 _ _ (.inl rfl) (.inr rfl) (.inr rfl) (.inr rfl) (.inr rfl) (.inr rfl) (.inr rfl) (.inr rfl)) id
  | clc =>
    obtain rfl := Host.Outcome.next.inj h
    exact .endFlags _ rfl (one_get 0 _ _ (.inl rfl) (.inr rfl) (.inr rfl) (.inr rfl) (.inr rfl) (.inr rfl) (.inr rfl) (.inr rfl)) id
  | sen =>
    obtain rfl := Host.Outcome.next.inj h
    exact .endFlags _ rfl (one_get 2 _ _ (.inr rfl) (.inr rfl) (.inl rfl) (.inr rfl) (.inr rfl) (.inr rfl) (.inr rfl) (.inr rfl)) id
  | cln =>
    obtain rfl := Host.Outcome.next.inj h
    exact .endFlags _ rfl (one_get 2 _ _ (.inr rfl) (.inr rfl) (.inl rfl) (.inr rfl) (.inr rfl) (.inr rfl) (.inr rfl) (.inr rfl)) id
  | sez =>
    obtain rfl := Host.Outcome.next.inj h
    exact .endFlags _ rfl (one_get 1 _ _ (.inr rfl) (.inl rfl) (.inr rfl) (.inr rfl) (.inr rfl) (.inr rfl) (.inr rfl) (.inr rfl)) id
  | clz =>
    obtain rfl := Host.Outcome.next.inj h
    exact .endFlags _ rfl (one_get 1 _ _ (.inr rfl) (.inl rfl) (.inr rfl) (.inr rfl) (.inr rfl) (.inr rfl) (.inr rfl) (.inr rfl)) id
  | sei =>
    obtain rfl := Host.Outcome.next.inj h
    exact .writeFlag 7 true rfl List.mem_cons_self
  | cli =>
    obtain rfl := Host.Outcome.next.inj h
    exact .endFlags _ rfl (one_get 7 _ _ (.inr rfl) (.inr rfl) (.inr rfl) (.inr rfl) (.inr rfl) (.inr rfl) (.inr rfl) (.inl rfl)) (fun h => nomatch h)
  | ses =>
    obtain rfl := Host.Outcome.next.inj h
    exact .endFlags _ rfl (one_get 4 _ _ (.inr rfl) (.inr rfl) (.inr rfl) (.inr rfl) (.inl rfl) (.inr rfl) (.inr rfl) (.inr rfl)) id
  | cls =>
    obtain rfl := Host.Outcome.next.inj h
    exact .endFlags _ rfl (one_get 4 _ _ (.inr rfl) (.inr rfl) (.inr rfl) (.inr rfl) (.inl rfl) (.inr rfl) (.inr rfl) (.inr rfl)) id
  | sev =>
    obtain rfl := Host.Outcome.next.inj h
    exact .endFlags _ rfl (one_get 3 _ _ (.inr rfl) (.inr rfl) (.inr rfl) (.inl rfl) (.inr rfl) (.inr rfl) (.inr rfl) (.inr rfl)) id
  | clv =>
    obtain rfl := Host.Outcome.next.inj h
    exact .endFlags _ rfl (one_get 3 _ _ (.inr rfl) (.inr rfl) (.inr rfl) (.inl rfl) (.inr rfl) (.inr rfl) (.inr rfl) (.inr rfl)) id
  | setT =>
    obtain rfl := Host.Outcome.next.inj h
    exact .endFlags _ rfl (one_get 6 _ _ (.inr rfl) (.inr rfl) (.inr rfl) (.inr rfl) (.inr rfl) (.inr rfl) (.inl rfl) (.inr rfl)) id
  | clt =>
    obtain rfl := Host.Outcome.next.inj h
    exact .endFlags _ rfl (one_get 6 _ _ (.inr rfl) (.inr rfl) (.inr rfl) (.inr rfl) (.inr rfl) (.inr rfl) (.inl rfl) (.inr rfl)) id
  | seh =>
    obtain rfl := Host.Outcome.next.inj h
    exact .endFlags _ rfl (one_get 5 _ _ (.inr rfl) (.inr rfl) (.inr rfl) (.inr rfl) (.inr rfl) (.inl rfl) (.inr rfl) (.inr rfl)) id
  | clh =>
    obtain rfl := Host.Outcome.next.inj h
    exact .endFlags _ rfl (one_get 5 _ _ (.inr rfl) (.inr rfl) (.inr rfl) (.inr rfl) (.inr rfl) (.inl rfl) (.inr rfl) (.inr rfl)) id
  | nop =>
    obtain rfl := Host.Outcome.next.inj h
    exact .pc _ rfl
  | sleep =>
    obtain rfl := Host.Outcome.next.inj h
    exact .sleep _ rfl rfl
  | wdr =>
    obtain rfl := Host.Outcome.next.inj h
    exact .wdr rfl
  | brk =>
    obtain rfl := execBrk_next h
    exact .pc _ rfl

end Sys2Proof.Machine
end

