-- ==== Sys2Proof/Laws/PerInstr.lean ====
section
/-!
SUPPORT. The law stated of every instruction: an instruction's length is the one its own first word announces
(30_encoding.md R80, R81). One lemma for each constructor.
-/

namespace Sys2Proof.Laws

/-- The instruction's words are one or two, as `IsTwoWord` of the first says (30_encoding.md R81). -/
def WordCount.Statement (i : Instr) : Prop :=
  (encode i).length = if isTwoWord ((encode i).headD 0) then 2 else 1

/-- A word that differs from a pattern at a bit of its mask does not match it. -/
theorem masked_ne (w m p : Word) (j : Nat) (hm : m.getLsbD j = true) (h : w.getLsbD j = !p.getLsbD j) :
    (w &&& m == p) = false := by
  rw [beq_eq_false_iff_ne]
  rintro rfl
  simp [hm] at h

/-- A word that differs from both two-word patterns announces one word. -/
theorem isTwoWord_false (w : Word) (j k : Nat)
    (hj : (0xFC0F#16).getLsbD j = true ∧ w.getLsbD j = !(0x9000#16).getLsbD j)
    (hk : (0xFE0C#16).getLsbD k = true ∧ w.getLsbD k = !(0x940C#16).getLsbD k) : isTwoWord w = false := by
  unfold isTwoWord
  rw [show (w &&& 0xFC0F == 0x9000) = false from masked_ne w _ _ j hj.1 hj.2,
    show (w &&& 0xFE0C == 0x940C) = false from masked_ne w _ _ k hk.1 hk.2]
  rfl

/-- One word that announces one word. -/
theorem WordCount.oneWord (i : Instr) (w : Word) (he : encode i = [w]) (j k : Nat)
    (hj : (0xFC0F#16).getLsbD j = true ∧ w.getLsbD j = !(0x9000#16).getLsbD j)
    (hk : (0xFE0C#16).getLsbD k = true ∧ w.getLsbD k = !(0x940C#16).getLsbD k) : Statement i := by
  simp only [Statement, he, List.headD_cons, isTwoWord_false w j k hj hk]
  rfl

/-- A word with every bit of a mask as in a pattern matches it. -/
theorem masked_eq (w m p : Word) (h : ∀ j : Fin 16, (w.getLsbD j && m.getLsbD j) = p.getLsbD j) :
    (w &&& m == p) = true := by
  rw [beq_iff_eq]
  ext j hj
  have := h ⟨j, hj⟩
  simpa [BitVec.getLsbD_eq_getElem hj] using this

/-- Two words whose first announces two words. -/
theorem WordCount.twoWords (i : Instr) (w v : Word) (he : encode i = [w, v])
    (h : (∀ j : Fin 16, (w.getLsbD j && (0xFC0F#16).getLsbD j) = (0x9000#16).getLsbD j) ∨
      ∀ j : Fin 16, (w.getLsbD j && (0xFE0C#16).getLsbD j) = (0x940C#16).getLsbD j) : Statement i := by
  have : isTwoWord w = true := by
    rw [isTwoWord, Bool.or_eq_true]
    exact h.imp (masked_eq w _ _) (masked_eq w _ _)
  simp only [Statement, he, List.headD_cons, this]
  rfl

open Encode

theorem WordCount.add (d : Reg) (r : Reg) : WordCount.Statement (.add d r) := by
  refine WordCount.oneWord _ _ rfl 15 15 ?_ ?_ <;> unfold encRdRr <;> repeat rw [BitVec.getLsbD_append]
  all_goals simp

theorem WordCount.adc (d : Reg) (r : Reg) : WordCount.Statement (.adc d r) := by
  refine WordCount.oneWord _ _ rfl 15 15 ?_ ?_ <;> unfold encRdRr <;> repeat rw [BitVec.getLsbD_append]
  all_goals simp

theorem WordCount.adiw (d : Reg) (k : BitVec 6) : WordCount.Statement (.adiw d k) := by
  refine WordCount.oneWord _ _ rfl 10 9 ?_ ?_ <;> unfold encPairK6 <;> repeat rw [BitVec.getLsbD_append]
  all_goals simp

theorem WordCount.sub (d : Reg) (r : Reg) : WordCount.Statement (.sub d r) := by
  refine WordCount.oneWord _ _ rfl 15 15 ?_ ?_ <;> unfold encRdRr <;> repeat rw [BitVec.getLsbD_append]
  all_goals simp

theorem WordCount.subi (d : Reg) (k : Byte) : WordCount.Statement (.subi d k) := by
  refine WordCount.oneWord _ _ rfl 15 15 ?_ ?_ <;> unfold encRdK8 <;> repeat rw [BitVec.getLsbD_append]
  all_goals simp

theorem WordCount.sbc (d : Reg) (r : Reg) : WordCount.Statement (.sbc d r) := by
  refine WordCount.oneWord _ _ rfl 15 15 ?_ ?_ <;> unfold encRdRr <;> repeat rw [BitVec.getLsbD_append]
  all_goals simp

theorem WordCount.sbci (d : Reg) (k : Byte) : WordCount.Statement (.sbci d k) := by
  refine WordCount.oneWord _ _ rfl 15 15 ?_ ?_ <;> unfold encRdK8 <;> repeat rw [BitVec.getLsbD_append]
  all_goals simp

theorem WordCount.sbiw (d : Reg) (k : BitVec 6) : WordCount.Statement (.sbiw d k) := by
  refine WordCount.oneWord _ _ rfl 10 9 ?_ ?_ <;> unfold encPairK6 <;> repeat rw [BitVec.getLsbD_append]
  all_goals simp

theorem WordCount.and (d : Reg) (r : Reg) : WordCount.Statement (.and d r) := by
  refine WordCount.oneWord _ _ rfl 15 15 ?_ ?_ <;> unfold encRdRr <;> repeat rw [BitVec.getLsbD_append]
  all_goals simp

theorem WordCount.andi (d : Reg) (k : Byte) : WordCount.Statement (.andi d k) := by
  refine WordCount.oneWord _ _ rfl 15 15 ?_ ?_ <;> unfold encRdK8 <;> repeat rw [BitVec.getLsbD_append]
  all_goals simp

theorem WordCount.or (d : Reg) (r : Reg) : WordCount.Statement (.or d r) := by
  refine WordCount.oneWord _ _ rfl 15 15 ?_ ?_ <;> unfold encRdRr <;> repeat rw [BitVec.getLsbD_append]
  all_goals simp

theorem WordCount.ori (d : Reg) (k : Byte) : WordCount.Statement (.ori d k) := by
  refine WordCount.oneWord _ _ rfl 15 15 ?_ ?_ <;> unfold encRdK8 <;> repeat rw [BitVec.getLsbD_append]
  all_goals simp

theorem WordCount.eor (d : Reg) (r : Reg) : WordCount.Statement (.eor d r) := by
  refine WordCount.oneWord _ _ rfl 15 15 ?_ ?_ <;> unfold encRdRr <;> repeat rw [BitVec.getLsbD_append]
  all_goals simp

theorem WordCount.com (d : Reg) : WordCount.Statement (.com d) := by
  refine WordCount.oneWord _ _ rfl 10 3 ?_ ?_ <;> unfold encRd <;> repeat rw [BitVec.getLsbD_append]
  all_goals simp

theorem WordCount.neg (d : Reg) : WordCount.Statement (.neg d) := by
  refine WordCount.oneWord _ _ rfl 10 3 ?_ ?_ <;> unfold encRd <;> repeat rw [BitVec.getLsbD_append]
  all_goals simp

theorem WordCount.sbr (d : Reg) (k : Byte) : WordCount.Statement (.sbr d k) := by
  refine WordCount.oneWord _ _ rfl 15 15 ?_ ?_ <;> unfold encRdK8 <;> repeat rw [BitVec.getLsbD_append]
  all_goals simp

theorem WordCount.cbr (d : Reg) (k : Byte) : WordCount.Statement (.cbr d k) := by
  refine WordCount.oneWord _ _ rfl 15 15 ?_ ?_ <;> unfold encRdK8 <;> repeat rw [BitVec.getLsbD_append]
  all_goals simp

theorem WordCount.inc (d : Reg) : WordCount.Statement (.inc d) := by
  refine WordCount.oneWord _ _ rfl 10 3 ?_ ?_ <;> unfold encRd <;> repeat rw [BitVec.getLsbD_append]
  all_goals simp

theorem WordCount.dec (d : Reg) : WordCount.Statement (.dec d) := by
  refine WordCount.oneWord _ _ rfl 10 2 ?_ ?_ <;> unfold encRd <;> repeat rw [BitVec.getLsbD_append]
  all_goals simp

theorem WordCount.tst (d : Reg) : WordCount.Statement (.tst d) := by
  refine WordCount.oneWord _ _ rfl 15 15 ?_ ?_ <;> unfold encRdRr <;> repeat rw [BitVec.getLsbD_append]
  all_goals simp

theorem WordCount.clr (d : Reg) : WordCount.Statement (.clr d) := by
  refine WordCount.oneWord _ _ rfl 15 15 ?_ ?_ <;> unfold encRdRr <;> repeat rw [BitVec.getLsbD_append]
  all_goals simp

theorem WordCount.ser (d : Reg) : WordCount.Statement (.ser d) := by
  refine WordCount.oneWord _ _ rfl 14 14 ?_ ?_ <;> unfold encRdK8 <;> repeat rw [BitVec.getLsbD_append]
  all_goals simp

theorem WordCount.mul (d : Reg) (r : Reg) : WordCount.Statement (.mul d r) := by
  refine WordCount.oneWord _ _ rfl 11 11 ?_ ?_ <;> unfold encRdRr <;> repeat rw [BitVec.getLsbD_append]
  all_goals simp

theorem WordCount.muls (d : Reg) (r : Reg) : WordCount.Statement (.muls d r) := by
  refine WordCount.oneWord _ _ rfl 15 15 ?_ ?_ <;> unfold encRd4Rr4 <;> repeat rw [BitVec.getLsbD_append]
  all_goals simp

theorem WordCount.mulsu (d : Reg) (r : Reg) : WordCount.Statement (.mulsu d r) := by
  refine WordCount.oneWord _ _ rfl 15 15 ?_ ?_ <;> unfold encRd3Rr3 <;> repeat rw [BitVec.getLsbD_append]
  all_goals simp

theorem WordCount.fmul (d : Reg) (r : Reg) : WordCount.Statement (.fmul d r) := by
  refine WordCount.oneWord _ _ rfl 15 15 ?_ ?_ <;> unfold encRd3Rr3 <;> repeat rw [BitVec.getLsbD_append]
  all_goals simp

theorem WordCount.fmuls (d : Reg) (r : Reg) : WordCount.Statement (.fmuls d r) := by
  refine WordCount.oneWord _ _ rfl 15 15 ?_ ?_ <;> unfold encRd3Rr3 <;> repeat rw [BitVec.getLsbD_append]
  all_goals simp

theorem WordCount.fmulsu (d : Reg) (r : Reg) : WordCount.Statement (.fmulsu d r) := by
  refine WordCount.oneWord _ _ rfl 15 15 ?_ ?_ <;> unfold encRd3Rr3 <;> repeat rw [BitVec.getLsbD_append]
  all_goals simp

theorem WordCount.rjmp (k : BitVec 12) : WordCount.Statement (.rjmp k) := by
  refine WordCount.oneWord _ _ rfl 14 14 ?_ ?_ <;> unfold encRel12 <;> repeat rw [BitVec.getLsbD_append]
  all_goals simp

theorem WordCount.ijmp : WordCount.Statement .ijmp := by unfold WordCount.Statement; decide

theorem WordCount.jmp (k : BitVec 22) : WordCount.Statement (.jmp k) := by
  refine WordCount.twoWords _ _ _ rfl (Or.inr fun j => ?_)
  repeat rw [BitVec.getLsbD_append]
  fin_cases j <;> simp

theorem WordCount.rcall (k : BitVec 12) : WordCount.Statement (.rcall k) := by
  refine WordCount.oneWord _ _ rfl 14 14 ?_ ?_ <;> unfold encRel12 <;> repeat rw [BitVec.getLsbD_append]
  all_goals simp

theorem WordCount.icall : WordCount.Statement .icall := by unfold WordCount.Statement; decide

theorem WordCount.call (k : BitVec 22) : WordCount.Statement (.call k) := by
  refine WordCount.twoWords _ _ _ rfl (Or.inr fun j => ?_)
  repeat rw [BitVec.getLsbD_append]
  fin_cases j <;> simp

theorem WordCount.ret : WordCount.Statement .ret := by unfold WordCount.Statement; decide

theorem WordCount.reti : WordCount.Statement .reti := by unfold WordCount.Statement; decide

theorem WordCount.cpse (d : Reg) (r : Reg) : WordCount.Statement (.cpse d r) := by
  refine WordCount.oneWord _ _ rfl 15 15 ?_ ?_ <;> unfold encRdRr <;> repeat rw [BitVec.getLsbD_append]
  all_goals simp

theorem WordCount.cp (d : Reg) (r : Reg) : WordCount.Statement (.cp d r) := by
  refine WordCount.oneWord _ _ rfl 15 15 ?_ ?_ <;> unfold encRdRr <;> repeat rw [BitVec.getLsbD_append]
  all_goals simp

theorem WordCount.cpc (d : Reg) (r : Reg) : WordCount.Statement (.cpc d r) := by
  refine WordCount.oneWord _ _ rfl 15 15 ?_ ?_ <;> unfold encRdRr <;> repeat rw [BitVec.getLsbD_append]
  all_goals simp

theorem WordCount.cpi (d : Reg) (k : Byte) : WordCount.Statement (.cpi d k) := by
  refine WordCount.oneWord _ _ rfl 15 15 ?_ ?_ <;> unfold encRdK8 <;> repeat rw [BitVec.getLsbD_append]
  all_goals simp

theorem WordCount.sbrc (r : Reg) (b : BitPos) : WordCount.Statement (.sbrc r b) := by
  refine WordCount.oneWord _ _ rfl 14 14 ?_ ?_ <;> unfold encRegBit <;> repeat rw [BitVec.getLsbD_append]
  all_goals simp

theorem WordCount.sbrs (r : Reg) (b : BitPos) : WordCount.Statement (.sbrs r b) := by
  refine WordCount.oneWord _ _ rfl 14 14 ?_ ?_ <;> unfold encRegBit <;> repeat rw [BitVec.getLsbD_append]
  all_goals simp

theorem WordCount.sbic (a : BitVec 5) (b : BitPos) : WordCount.Statement (.sbic a b) := by
  refine WordCount.oneWord _ _ rfl 11 11 ?_ ?_ <;> unfold encIOBit <;> repeat rw [BitVec.getLsbD_append]
  all_goals simp

theorem WordCount.sbis (a : BitVec 5) (b : BitPos) : WordCount.Statement (.sbis a b) := by
  refine WordCount.oneWord _ _ rfl 11 11 ?_ ?_ <;> unfold encIOBit <;> repeat rw [BitVec.getLsbD_append]
  all_goals simp

theorem WordCount.brbs (f : BitPos) (k : BitVec 7) : WordCount.Statement (.brbs f k) := by
  refine WordCount.oneWord _ _ rfl 14 14 ?_ ?_ <;> unfold encBr <;> repeat rw [BitVec.getLsbD_append]
  all_goals simp

theorem WordCount.brbc (f : BitPos) (k : BitVec 7) : WordCount.Statement (.brbc f k) := by
  refine WordCount.oneWord _ _ rfl 14 14 ?_ ?_ <;> unfold encBr <;> repeat rw [BitVec.getLsbD_append]
  all_goals simp

theorem WordCount.breq (k : BitVec 7) : WordCount.Statement (.breq k) := by
  refine WordCount.oneWord _ _ rfl 14 14 ?_ ?_ <;> unfold encBr <;> repeat rw [BitVec.getLsbD_append]
  all_goals simp

theorem WordCount.brne (k : BitVec 7) : WordCount.Statement (.brne k) := by
  refine WordCount.oneWord _ _ rfl 14 14 ?_ ?_ <;> unfold encBr <;> repeat rw [BitVec.getLsbD_append]
  all_goals simp

theorem WordCount.brcs (k : BitVec 7) : WordCount.Statement (.brcs k) := by
  refine WordCount.oneWord _ _ rfl 14 14 ?_ ?_ <;> unfold encBr <;> repeat rw [BitVec.getLsbD_append]
  all_goals simp

theorem WordCount.brcc (k : BitVec 7) : WordCount.Statement (.brcc k) := by
  refine WordCount.oneWord _ _ rfl 14 14 ?_ ?_ <;> unfold encBr <;> repeat rw [BitVec.getLsbD_append]
  all_goals simp

theorem WordCount.brsh (k : BitVec 7) : WordCount.Statement (.brsh k) := by
  refine WordCount.oneWord _ _ rfl 14 14 ?_ ?_ <;> unfold encBr <;> repeat rw [BitVec.getLsbD_append]
  all_goals simp

theorem WordCount.brlo (k : BitVec 7) : WordCount.Statement (.brlo k) := by
  refine WordCount.oneWord _ _ rfl 14 14 ?_ ?_ <;> unfold encBr <;> repeat rw [BitVec.getLsbD_append]
  all_goals simp

theorem WordCount.brmi (k : BitVec 7) : WordCount.Statement (.brmi k) := by
  refine WordCount.oneWord _ _ rfl 14 14 ?_ ?_ <;> unfold encBr <;> repeat rw [BitVec.getLsbD_append]
  all_goals simp

theorem WordCount.brpl (k : BitVec 7) : WordCount.Statement (.brpl k) := by
  refine WordCount.oneWord _ _ rfl 14 14 ?_ ?_ <;> unfold encBr <;> repeat rw [BitVec.getLsbD_append]
  all_goals simp

theorem WordCount.brge (k : BitVec 7) : WordCount.Statement (.brge k) := by
  refine WordCount.oneWord _ _ rfl 14 14 ?_ ?_ <;> unfold encBr <;> repeat rw [BitVec.getLsbD_append]
  all_goals simp

theorem WordCount.brlt (k : BitVec 7) : WordCount.Statement (.brlt k) := by
  refine WordCount.oneWord _ _ rfl 14 14 ?_ ?_ <;> unfold encBr <;> repeat rw [BitVec.getLsbD_append]
  all_goals simp

theorem WordCount.brhs (k : BitVec 7) : WordCount.Statement (.brhs k) := by
  refine WordCount.oneWord _ _ rfl 14 14 ?_ ?_ <;> unfold encBr <;> repeat rw [BitVec.getLsbD_append]
  all_goals simp

theorem WordCount.brhc (k : BitVec 7) : WordCount.Statement (.brhc k) := by
  refine WordCount.oneWord _ _ rfl 14 14 ?_ ?_ <;> unfold encBr <;> repeat rw [BitVec.getLsbD_append]
  all_goals simp

theorem WordCount.brts (k : BitVec 7) : WordCount.Statement (.brts k) := by
  refine WordCount.oneWord _ _ rfl 14 14 ?_ ?_ <;> unfold encBr <;> repeat rw [BitVec.getLsbD_append]
  all_goals simp

theorem WordCount.brtc (k : BitVec 7) : WordCount.Statement (.brtc k) := by
  refine WordCount.oneWord _ _ rfl 14 14 ?_ ?_ <;> unfold encBr <;> repeat rw [BitVec.getLsbD_append]
  all_goals simp

theorem WordCount.brvs (k : BitVec 7) : WordCount.Statement (.brvs k) := by
  refine WordCount.oneWord _ _ rfl 14 14 ?_ ?_ <;> unfold encBr <;> repeat rw [BitVec.getLsbD_append]
  all_goals simp

theorem WordCount.brvc (k : BitVec 7) : WordCount.Statement (.brvc k) := by
  refine WordCount.oneWord _ _ rfl 14 14 ?_ ?_ <;> unfold encBr <;> repeat rw [BitVec.getLsbD_append]
  all_goals simp

theorem WordCount.brie (k : BitVec 7) : WordCount.Statement (.brie k) := by
  refine WordCount.oneWord _ _ rfl 14 14 ?_ ?_ <;> unfold encBr <;> repeat rw [BitVec.getLsbD_append]
  all_goals simp

theorem WordCount.brid (k : BitVec 7) : WordCount.Statement (.brid k) := by
  refine WordCount.oneWord _ _ rfl 14 14 ?_ ?_ <;> unfold encBr <;> repeat rw [BitVec.getLsbD_append]
  all_goals simp

theorem WordCount.mov (d : Reg) (r : Reg) : WordCount.Statement (.mov d r) := by
  refine WordCount.oneWord _ _ rfl 15 15 ?_ ?_ <;> unfold encRdRr <;> repeat rw [BitVec.getLsbD_append]
  all_goals simp

theorem WordCount.movw (d : Reg) (r : Reg) : WordCount.Statement (.movw d r) := by
  refine WordCount.oneWord _ _ rfl 15 15 ?_ ?_ <;> unfold encPairPair <;> repeat rw [BitVec.getLsbD_append]
  all_goals simp

theorem WordCount.ldi (d : Reg) (k : Byte) : WordCount.Statement (.ldi d k) := by
  refine WordCount.oneWord _ _ rfl 14 14 ?_ ?_ <;> unfold encRdK8 <;> repeat rw [BitVec.getLsbD_append]
  all_goals simp

theorem WordCount.ldX (d : Reg) : WordCount.Statement (.ldX d) := by
  refine WordCount.oneWord _ _ rfl 3 10 ?_ ?_ <;> unfold encLdSt <;> repeat rw [BitVec.getLsbD_append]
  all_goals simp

theorem WordCount.ldXInc (d : Reg) : WordCount.Statement (.ldXInc d) := by
  refine WordCount.oneWord _ _ rfl 3 10 ?_ ?_ <;> unfold encLdSt <;> repeat rw [BitVec.getLsbD_append]
  all_goals simp

theorem WordCount.ldXDec (d : Reg) : WordCount.Statement (.ldXDec d) := by
  refine WordCount.oneWord _ _ rfl 3 10 ?_ ?_ <;> unfold encLdSt <;> repeat rw [BitVec.getLsbD_append]
  all_goals simp

theorem WordCount.ldY (d : Reg) : WordCount.Statement (.ldY d) := by
  refine WordCount.oneWord _ _ rfl 12 12 ?_ ?_ <;> unfold encLddStd <;> repeat rw [BitVec.getLsbD_append]
  all_goals simp

theorem WordCount.ldYInc (d : Reg) : WordCount.Statement (.ldYInc d) := by
  refine WordCount.oneWord _ _ rfl 3 10 ?_ ?_ <;> unfold encLdSt <;> repeat rw [BitVec.getLsbD_append]
  all_goals simp

theorem WordCount.ldYDec (d : Reg) : WordCount.Statement (.ldYDec d) := by
  refine WordCount.oneWord _ _ rfl 3 10 ?_ ?_ <;> unfold encLdSt <;> repeat rw [BitVec.getLsbD_append]
  all_goals simp

theorem WordCount.lddY (d : Reg) (q : BitVec 6) : WordCount.Statement (.lddY d q) := by
  refine WordCount.oneWord _ _ rfl 12 12 ?_ ?_ <;> unfold encLddStd <;> repeat rw [BitVec.getLsbD_append]
  all_goals simp

theorem WordCount.ldZ (d : Reg) : WordCount.Statement (.ldZ d) := by
  refine WordCount.oneWord _ _ rfl 12 12 ?_ ?_ <;> unfold encLddStd <;> repeat rw [BitVec.getLsbD_append]
  all_goals simp

theorem WordCount.ldZInc (d : Reg) : WordCount.Statement (.ldZInc d) := by
  refine WordCount.oneWord _ _ rfl 0 10 ?_ ?_ <;> unfold encLdSt <;> repeat rw [BitVec.getLsbD_append]
  all_goals simp

theorem WordCount.ldZDec (d : Reg) : WordCount.Statement (.ldZDec d) := by
  refine WordCount.oneWord _ _ rfl 1 10 ?_ ?_ <;> unfold encLdSt <;> repeat rw [BitVec.getLsbD_append]
  all_goals simp

theorem WordCount.lddZ (d : Reg) (q : BitVec 6) : WordCount.Statement (.lddZ d q) := by
  refine WordCount.oneWord _ _ rfl 12 12 ?_ ?_ <;> unfold encLddStd <;> repeat rw [BitVec.getLsbD_append]
  all_goals simp

theorem WordCount.lds (d : Reg) (k : Word) : WordCount.Statement (.lds d k) := by
  refine WordCount.twoWords _ _ _ rfl (Or.inl fun j => ?_)
  unfold encLdSt
  repeat rw [BitVec.getLsbD_append]
  fin_cases j <;> simp

theorem WordCount.stX (r : Reg) : WordCount.Statement (.stX r) := by
  refine WordCount.oneWord _ _ rfl 3 10 ?_ ?_ <;> unfold encLdSt <;> repeat rw [BitVec.getLsbD_append]
  all_goals simp

theorem WordCount.stXInc (r : Reg) : WordCount.Statement (.stXInc r) := by
  refine WordCount.oneWord _ _ rfl 3 10 ?_ ?_ <;> unfold encLdSt <;> repeat rw [BitVec.getLsbD_append]
  all_goals simp

theorem WordCount.stXDec (r : Reg) : WordCount.Statement (.stXDec r) := by
  refine WordCount.oneWord _ _ rfl 3 10 ?_ ?_ <;> unfold encLdSt <;> repeat rw [BitVec.getLsbD_append]
  all_goals simp

theorem WordCount.stY (r : Reg) : WordCount.Statement (.stY r) := by
  refine WordCount.oneWord _ _ rfl 12 12 ?_ ?_ <;> unfold encLddStd <;> repeat rw [BitVec.getLsbD_append]
  all_goals simp

theorem WordCount.stYInc (r : Reg) : WordCount.Statement (.stYInc r) := by
  refine WordCount.oneWord _ _ rfl 3 10 ?_ ?_ <;> unfold encLdSt <;> repeat rw [BitVec.getLsbD_append]
  all_goals simp

theorem WordCount.stYDec (r : Reg) : WordCount.Statement (.stYDec r) := by
  refine WordCount.oneWord _ _ rfl 3 10 ?_ ?_ <;> unfold encLdSt <;> repeat rw [BitVec.getLsbD_append]
  all_goals simp

theorem WordCount.stdY (q : BitVec 6) (r : Reg) : WordCount.Statement (.stdY q r) := by
  refine WordCount.oneWord _ _ rfl 12 12 ?_ ?_ <;> unfold encLddStd <;> repeat rw [BitVec.getLsbD_append]
  all_goals simp

theorem WordCount.stZ (r : Reg) : WordCount.Statement (.stZ r) := by
  refine WordCount.oneWord _ _ rfl 12 12 ?_ ?_ <;> unfold encLddStd <;> repeat rw [BitVec.getLsbD_append]
  all_goals simp

theorem WordCount.stZInc (r : Reg) : WordCount.Statement (.stZInc r) := by
  refine WordCount.oneWord _ _ rfl 0 10 ?_ ?_ <;> unfold encLdSt <;> repeat rw [BitVec.getLsbD_append]
  all_goals simp

theorem WordCount.stZDec (r : Reg) : WordCount.Statement (.stZDec r) := by
  refine WordCount.oneWord _ _ rfl 1 10 ?_ ?_ <;> unfold encLdSt <;> repeat rw [BitVec.getLsbD_append]
  all_goals simp

theorem WordCount.stdZ (q : BitVec 6) (r : Reg) : WordCount.Statement (.stdZ q r) := by
  refine WordCount.oneWord _ _ rfl 12 12 ?_ ?_ <;> unfold encLddStd <;> repeat rw [BitVec.getLsbD_append]
  all_goals simp

theorem WordCount.sts (k : Word) (r : Reg) : WordCount.Statement (.sts k r) := by
  refine WordCount.twoWords _ _ _ rfl (Or.inl fun j => ?_)
  unfold encLdSt
  repeat rw [BitVec.getLsbD_append]
  fin_cases j <;> simp

theorem WordCount.lpm : WordCount.Statement .lpm := by unfold WordCount.Statement; decide

theorem WordCount.lpmZ (d : Reg) : WordCount.Statement (.lpmZ d) := by
  refine WordCount.oneWord _ _ rfl 2 10 ?_ ?_ <;> unfold encLdSt <;> repeat rw [BitVec.getLsbD_append]
  all_goals simp

theorem WordCount.lpmZInc (d : Reg) : WordCount.Statement (.lpmZInc d) := by
  refine WordCount.oneWord _ _ rfl 2 10 ?_ ?_ <;> unfold encLdSt <;> repeat rw [BitVec.getLsbD_append]
  all_goals simp

theorem WordCount.spm : WordCount.Statement .spm := by unfold WordCount.Statement; decide

theorem WordCount.inp (d : Reg) (a : BitVec 6) : WordCount.Statement (.inp d a) := by
  refine WordCount.oneWord _ _ rfl 13 13 ?_ ?_ <;> unfold encIO <;> repeat rw [BitVec.getLsbD_append]
  all_goals simp

theorem WordCount.out (a : BitVec 6) (r : Reg) : WordCount.Statement (.out a r) := by
  refine WordCount.oneWord _ _ rfl 13 13 ?_ ?_ <;> unfold encIO <;> repeat rw [BitVec.getLsbD_append]
  all_goals simp

theorem WordCount.push (r : Reg) : WordCount.Statement (.push r) := by
  refine WordCount.oneWord _ _ rfl 3 10 ?_ ?_ <;> unfold encLdSt <;> repeat rw [BitVec.getLsbD_append]
  all_goals simp

theorem WordCount.pop (d : Reg) : WordCount.Statement (.pop d) := by
  refine WordCount.oneWord _ _ rfl 3 10 ?_ ?_ <;> unfold encLdSt <;> repeat rw [BitVec.getLsbD_append]
  all_goals simp

theorem WordCount.sbi (a : BitVec 5) (b : BitPos) : WordCount.Statement (.sbi a b) := by
  refine WordCount.oneWord _ _ rfl 11 11 ?_ ?_ <;> unfold encIOBit <;> repeat rw [BitVec.getLsbD_append]
  all_goals simp

theorem WordCount.cbi (a : BitVec 5) (b : BitPos) : WordCount.Statement (.cbi a b) := by
  refine WordCount.oneWord _ _ rfl 11 11 ?_ ?_ <;> unfold encIOBit <;> repeat rw [BitVec.getLsbD_append]
  all_goals simp

theorem WordCount.lsl (d : Reg) : WordCount.Statement (.lsl d) := by
  refine WordCount.oneWord _ _ rfl 15 15 ?_ ?_ <;> unfold encRdRr <;> repeat rw [BitVec.getLsbD_append]
  all_goals simp

theorem WordCount.lsr (d : Reg) : WordCount.Statement (.lsr d) := by
  refine WordCount.oneWord _ _ rfl 10 3 ?_ ?_ <;> unfold encRd <;> repeat rw [BitVec.getLsbD_append]
  all_goals simp

theorem WordCount.rol (d : Reg) : WordCount.Statement (.rol d) := by
  refine WordCount.oneWord _ _ rfl 15 15 ?_ ?_ <;> unfold encRdRr <;> repeat rw [BitVec.getLsbD_append]
  all_goals simp

theorem WordCount.ror (d : Reg) : WordCount.Statement (.ror d) := by
  refine WordCount.oneWord _ _ rfl 10 3 ?_ ?_ <;> unfold encRd <;> repeat rw [BitVec.getLsbD_append]
  all_goals simp

theorem WordCount.asr (d : Reg) : WordCount.Statement (.asr d) := by
  refine WordCount.oneWord _ _ rfl 10 3 ?_ ?_ <;> unfold encRd <;> repeat rw [BitVec.getLsbD_append]
  all_goals simp

theorem WordCount.swap (d : Reg) : WordCount.Statement (.swap d) := by
  refine WordCount.oneWord _ _ rfl 10 3 ?_ ?_ <;> unfold encRd <;> repeat rw [BitVec.getLsbD_append]
  all_goals simp

theorem WordCount.bst (r : Reg) (b : BitPos) : WordCount.Statement (.bst r b) := by
  refine WordCount.oneWord _ _ rfl 14 14 ?_ ?_ <;> unfold encRegBit <;> repeat rw [BitVec.getLsbD_append]
  all_goals simp

theorem WordCount.bld (d : Reg) (b : BitPos) : WordCount.Statement (.bld d b) := by
  refine WordCount.oneWord _ _ rfl 14 14 ?_ ?_ <;> unfold encRegBit <;> repeat rw [BitVec.getLsbD_append]
  all_goals simp

theorem WordCount.bset (f : BitPos) : WordCount.Statement (.bset f) := by
  refine WordCount.oneWord _ _ rfl 10 2 ?_ ?_ <;> unfold encSregBit <;> repeat rw [BitVec.getLsbD_append]
  all_goals simp

theorem WordCount.bclr (f : BitPos) : WordCount.Statement (.bclr f) := by
  refine WordCount.oneWord _ _ rfl 10 2 ?_ ?_ <;> unfold encSregBit <;> repeat rw [BitVec.getLsbD_append]
  all_goals simp

theorem WordCount.sec : WordCount.Statement .sec := by unfold WordCount.Statement; decide

theorem WordCount.clc : WordCount.Statement .clc := by unfold WordCount.Statement; decide

theorem WordCount.sen : WordCount.Statement .sen := by unfold WordCount.Statement; decide

theorem WordCount.cln : WordCount.Statement .cln := by unfold WordCount.Statement; decide

theorem WordCount.sez : WordCount.Statement .sez := by unfold WordCount.Statement; decide

theorem WordCount.clz : WordCount.Statement .clz := by unfold WordCount.Statement; decide

theorem WordCount.sei : WordCount.Statement .sei := by unfold WordCount.Statement; decide

theorem WordCount.cli : WordCount.Statement .cli := by unfold WordCount.Statement; decide

theorem WordCount.ses : WordCount.Statement .ses := by unfold WordCount.Statement; decide

theorem WordCount.cls : WordCount.Statement .cls := by unfold WordCount.Statement; decide

theorem WordCount.sev : WordCount.Statement .sev := by unfold WordCount.Statement; decide

theorem WordCount.clv : WordCount.Statement .clv := by unfold WordCount.Statement; decide

theorem WordCount.setT : WordCount.Statement .setT := by unfold WordCount.Statement; decide

theorem WordCount.clt : WordCount.Statement .clt := by unfold WordCount.Statement; decide

theorem WordCount.seh : WordCount.Statement .seh := by unfold WordCount.Statement; decide

theorem WordCount.clh : WordCount.Statement .clh := by unfold WordCount.Statement; decide

theorem WordCount.nop : WordCount.Statement .nop := by unfold WordCount.Statement; decide

theorem WordCount.sleep : WordCount.Statement .sleep := by unfold WordCount.Statement; decide

theorem WordCount.wdr : WordCount.Statement .wdr := by unfold WordCount.Statement; decide

theorem WordCount.brk : WordCount.Statement .brk := by unfold WordCount.Statement; decide

end Sys2Proof.Laws
end

