-- ==== Sys2Proof/Tests/Slice0.lean ====
section
/-!
SUPPORT. The model's own tests: words written out from the encodings of the spec, one-step tests whose expected values are
those of 95_test_vectors.md (`v<n>` names the vector V<n>) or computed by hand from the rule named, and a witness for the
hypotheses of every statement of Certificates/Slice0/Obligations.lean that has any.
-/

namespace Sys2Proof.Tests

open Sys2Proof.Machine

/-! ### Helpers -/

/-- The reset state with some registers, SREG and the pc replaced. -/
def start (regs : List (Reg × Byte)) (sreg : Byte) (pc : ProgAddr) : State :=
  regs.foldl (fun s p => s.setReg p.1 p.2) ((State.reset.setSreg (Sreg.ofByte sreg)).setPc pc)

/-- Words placed in program memory from an address on. -/
def place (s : State) (a : ProgAddr) : List Word → State
  | [] => s
  | w :: ws => place (s.loadWord a w) (a + 1) ws

/-- What an observation of the next state shows. -/
def gives {α : Type} (r : Result) (f : State → α) : Option α :=
  match r with
  | .next t => some (f t)
  | _ => none

/-- The fault a step ends in. -/
def stops (r : Result) : Option Fault :=
  match r with
  | .fault f => some f
  | _ => none

/-- One step with these words at the pc. -/
def fetched (s : State) (ws : List Word) : Result := step (place s s.pc ws)

/-- An answer observed is a next state. -/
theorem next_of_gives {α : Type} {r : Result} {f : State → α} {x : α} (h : gives r f = some x) :
    ∃ t, r = .next t ∧ f t = x := by
  cases r with
  | next t => exact ⟨t, rfl, Option.some.inj h⟩
  | fault _ => cases h
  | refused _ => cases h

/-! ### WellFormed refuses an ill-formed term of each kind (30_encoding.md R86 to R89) -/

theorem test_illformed_upper : (Instr.ldi 15 0).wellFormed = false ∧ (Instr.ldi 16 0).wellFormed = true := by decide
theorem test_illformed_muls : (Instr.muls 15 16).wellFormed = false ∧ (Instr.muls 16 15).wellFormed = false := by decide
theorem test_illformed_mid :
    (Instr.mulsu 24 16).wellFormed = false ∧ (Instr.fmul 16 24).wellFormed = false ∧
    (Instr.fmuls 15 16).wellFormed = false ∧ (Instr.fmulsu 23 16).wellFormed = true := by decide
theorem test_illformed_even :
    (Instr.movw 1 0).wellFormed = false ∧ (Instr.movw 0 1).wellFormed = false ∧
    (Instr.movw 30 0).wellFormed = true := by decide
theorem test_illformed_pair :
    (Instr.adiw 22 0).wellFormed = false ∧ (Instr.sbiw 25 0).wellFormed = false ∧
    (Instr.adiw 24 0).wellFormed = true := by decide
theorem test_illformed_immediate :
    (Instr.subi 0 1).wellFormed = false ∧ (Instr.sbci 15 1).wellFormed = false ∧
    (Instr.andi 1 1).wellFormed = false ∧ (Instr.ori 2 1).wellFormed = false ∧
    (Instr.sbr 3 1).wellFormed = false ∧ (Instr.cbr 4 1).wellFormed = false ∧
    (Instr.ser 5).wellFormed = false ∧ (Instr.cpi 6 1).wellFormed = false := by decide

/-! ### Decoding and encoding: words of 95_test_vectors.md written bit by bit; an alias's word decodes to its canonical row
(30_encoding.md R102) -/

/-- Format RdRr. -/
theorem test_decode_rdrr :
    decodeWords 0b0000111100000001 0 = some (.add 16 17) ∧ encode (.add 16 17) = [0b0000111100000001] ∧
    decodeWords 0b0001110000100011 0 = some (.adc 2 3) ∧ encode (.adc 2 3) = [0b0001110000100011] ∧
    decodeWords 0b0001101100000001 0 = some (.sub 16 17) ∧ encode (.sub 16 17) = [0b0001101100000001] ∧
    decodeWords 0b0000101100010011 0 = some (.sbc 17 19) ∧ encode (.sbc 17 19) = [0b0000101100010011] ∧
    decodeWords 0b0010000000010010 0 = some (.and 1 2) ∧ encode (.and 1 2) = [0b0010000000010010] ∧
    decodeWords 0b0010100000010010 0 = some (.or 1 2) ∧ encode (.or 1 2) = [0b0010100000010010] ∧
    decodeWords 0b0010010001000101 0 = some (.eor 4 5) ∧ encode (.eor 4 5) = [0b0010010001000101] ∧
    decodeWords 0b1001111100000001 0 = some (.mul 16 17) ∧ encode (.mul 16 17) = [0b1001111100000001] ∧
    decodeWords 0b0001000001000000 0 = some (.cpse 4 0) ∧ encode (.cpse 4 0) = [0b0001000001000000] ∧
    decodeWords 0b0001011100000001 0 = some (.cp 16 17) ∧ encode (.cp 16 17) = [0b0001011100000001] ∧
    decodeWords 0b0000010000110101 0 = some (.cpc 3 5) ∧ encode (.cpc 3 5) = [0b0000010000110101] ∧
    decodeWords 0b0010111000011111 0 = some (.mov 1 31) ∧ encode (.mov 1 31) = [0b0010111000011111] := by decide

/-- Format PairK6. -/
theorem test_decode_pairk6 :
    decodeWords 0b1001011000000001 0 = some (.adiw 24 1) ∧ encode (.adiw 24 1) = [0b1001011000000001] ∧
    decodeWords 0b1001011100000001 0 = some (.sbiw 24 1) ∧ encode (.sbiw 24 1) = [0b1001011100000001] := by decide

/-- Format RdK8. -/
theorem test_decode_rdk8 :
    decodeWords 0b0101000100000000 0 = some (.subi 16 0x10) ∧ encode (.subi 16 0x10) = [0b0101000100000000] ∧
    decodeWords 0b0100000000010000 0 = some (.sbci 17 0x00) ∧ encode (.sbci 17 0x00) = [0b0100000000010000] ∧
    decodeWords 0b0111100000000000 0 = some (.andi 16 0x80) ∧ encode (.andi 16 0x80) = [0b0111100000000000] ∧
    decodeWords 0b0110000011111111 0 = some (.ori 31 0x0F) ∧ encode (.ori 31 0x0F) = [0b0110000011111111] ∧
    decodeWords 0b0110100000000001 0 = some (.ori 16 0x81) ∧ encode (.sbr 16 0x81) = [0b0110100000000001] ∧
    decodeWords 0b0111111100000000 0 = some (.andi 16 0xF0) ∧ encode (.cbr 16 0x0F) = [0b0111111100000000] ∧
    decodeWords 0b1110111100101111 0 = some (.ldi 18 0xFF) ∧ encode (.ser 18) = [0b1110111100101111] ∧
    decodeWords 0b0011000100000000 0 = some (.cpi 16 0x10) ∧ encode (.cpi 16 0x10) = [0b0011000100000000] ∧
    decodeWords 0b1110101000000101 0 = some (.ldi 16 0xA5) ∧ encode (.ldi 16 0xA5) = [0b1110101000000101] := by decide

/-- Format Rd. -/
theorem test_decode_rd :
    decodeWords 0b1001010100000000 0 = some (.com 16) ∧ encode (.com 16) = [0b1001010100000000] ∧
    decodeWords 0b1001010100000001 0 = some (.neg 16) ∧ encode (.neg 16) = [0b1001010100000001] ∧
    decodeWords 0b1001010100000011 0 = some (.inc 16) ∧ encode (.inc 16) = [0b1001010100000011] ∧
    decodeWords 0b1001010100001010 0 = some (.dec 16) ∧ encode (.dec 16) = [0b1001010100001010] ∧
    decodeWords 0b1001010100000110 0 = some (.lsr 16) ∧ encode (.lsr 16) = [0b1001010100000110] ∧
    decodeWords 0b1001010100010111 0 = some (.ror 17) ∧ encode (.ror 17) = [0b1001010100010111] ∧
    decodeWords 0b1001010100100101 0 = some (.asr 18) ∧ encode (.asr 18) = [0b1001010100100101] ∧
    decodeWords 0b1001010000010010 0 = some (.swap 1) ∧ encode (.swap 1) = [0b1001010000010010] := by decide

/-- Format RdRd. -/
theorem test_decode_rdrd :
    decodeWords 0b0010000010011001 0 = some (.and 9 9) ∧ encode (.tst 9) = [0b0010000010011001] ∧
    decodeWords 0b0010010001000100 0 = some (.eor 4 4) ∧ encode (.clr 4) = [0b0010010001000100] ∧
    decodeWords 0b0000111100000000 0 = some (.add 16 16) ∧ encode (.lsl 16) = [0b0000111100000000] ∧
    decodeWords 0b0001111100010001 0 = some (.adc 17 17) ∧ encode (.rol 17) = [0b0001111100010001] := by decide

/-- Format Rd4Rr4. -/
theorem test_decode_rd4rr4 :
    decodeWords 0b0000001000000001 0 = some (.muls 16 17) ∧ encode (.muls 16 17) = [0b0000001000000001] := by decide

/-- Format Rd3Rr3. -/
theorem test_decode_rd3rr3 :
    decodeWords 0b0000001100000001 0 = some (.mulsu 16 17) ∧ encode (.mulsu 16 17) = [0b0000001100000001] ∧
    decodeWords 0b0000001100001001 0 = some (.fmul 16 17) ∧ encode (.fmul 16 17) = [0b0000001100001001] ∧
    decodeWords 0b0000001110000001 0 = some (.fmuls 16 17) ∧ encode (.fmuls 16 17) = [0b0000001110000001] ∧
    decodeWords 0b0000001110001001 0 = some (.fmulsu 16 17) ∧ encode (.fmulsu 16 17) = [0b0000001110001001] := by decide

/-- Format Rel12. -/
theorem test_decode_rel12 :
    decodeWords 0b1100111111111111 0 = some (.rjmp (-1)) ∧ encode (.rjmp (-1)) = [0b1100111111111111] ∧
    decodeWords 0b1101000000010000 0 = some (.rcall 16) ∧ encode (.rcall 16) = [0b1101000000010000] := by decide

/-- Format Fixed. -/
theorem test_decode_fixed :
    decodeWords 0b1001010000001001 0 = some (.ijmp) ∧ encode (.ijmp) = [0b1001010000001001] ∧
    decodeWords 0b1001010100001001 0 = some (.icall) ∧ encode (.icall) = [0b1001010100001001] ∧
    decodeWords 0b1001010100001000 0 = some (.ret) ∧ encode (.ret) = [0b1001010100001000] ∧
    decodeWords 0b1001010100011000 0 = some (.reti) ∧ encode (.reti) = [0b1001010100011000] ∧
    decodeWords 0b1001010111001000 0 = some (.lpm) ∧ encode (.lpm) = [0b1001010111001000] ∧
    decodeWords 0b1001010111101000 0 = some (.spm) ∧ encode (.spm) = [0b1001010111101000] ∧
    decodeWords 0b0000000000000000 0 = some (.nop) ∧ encode (.nop) = [0b0000000000000000] ∧
    decodeWords 0b1001010110001000 0 = some (.sleep) ∧ encode (.sleep) = [0b1001010110001000] ∧
    decodeWords 0b1001010110101000 0 = some (.wdr) ∧ encode (.wdr) = [0b1001010110101000] ∧
    decodeWords 0b1001010110011000 0 = some (.brk) ∧ encode (.brk) = [0b1001010110011000] := by decide

/-- Format Abs22. -/
theorem test_decode_abs22 :
    decodeWords 0b1001010000001100 0x1234 = some (.jmp 0x1234) ∧ encode (.jmp 0x1234) = [0b1001010000001100, 0x1234] ∧
    decodeWords 0b1001010000001110 0x0400 = some (.call 0x0400) ∧ encode (.call 0x0400) = [0b1001010000001110, 0x0400] := by decide

/-- Format RegBit. -/
theorem test_decode_regbit :
    decodeWords 0b1111110000000111 0 = some (.sbrc 0 7) ∧ encode (.sbrc 0 7) = [0b1111110000000111] ∧
    decodeWords 0b1111111111110000 0 = some (.sbrs 31 0) ∧ encode (.sbrs 31 0) = [0b1111111111110000] ∧
    decodeWords 0b1111101000110111 0 = some (.bst 3 7) ∧ encode (.bst 3 7) = [0b1111101000110111] ∧
    decodeWords 0b1111100001000011 0 = some (.bld 4 3) ∧ encode (.bld 4 3) = [0b1111100001000011] := by decide

/-- Format IOBit. -/
theorem test_decode_iobit :
    decodeWords 0b1001100100011101 0 = some (.sbic 0x03 5) ∧ encode (.sbic 0x03 5) = [0b1001100100011101] ∧
    decodeWords 0b1001101111111001 0 = some (.sbis 0x1F 1) ∧ encode (.sbis 0x1F 1) = [0b1001101111111001] ∧
    decodeWords 0b1001101000101101 0 = some (.sbi 0x05 5) ∧ encode (.sbi 0x05 5) = [0b1001101000101101] ∧
    decodeWords 0b1001100000101000 0 = some (.cbi 0x05 0) ∧ encode (.cbi 0x05 0) = [0b1001100000101000] := by decide

/-- Format Br. -/
theorem test_decode_br :
    decodeWords 0b1111001111110001 0 = some (.brbs 1 (-2)) ∧ encode (.brbs 1 (-2)) = [0b1111001111110001] ∧
    decodeWords 0b1111011111111111 0 = some (.brbc 7 (-1)) ∧ encode (.brbc 7 (-1)) = [0b1111011111111111] ∧
    decodeWords 0b1111000000010001 0 = some (.brbs 1 2) ∧ encode (.breq 2) = [0b1111000000010001] ∧
    decodeWords 0b1111010000010001 0 = some (.brbc 1 2) ∧ encode (.brne 2) = [0b1111010000010001] ∧
    decodeWords 0b1111000000010000 0 = some (.brbs 0 2) ∧ encode (.brcs 2) = [0b1111000000010000] ∧
    decodeWords 0b1111010000010000 0 = some (.brbc 0 2) ∧ encode (.brcc 2) = [0b1111010000010000] ∧
    decodeWords 0b1111010000010000 0 = some (.brbc 0 2) ∧ encode (.brsh 2) = [0b1111010000010000] ∧
    decodeWords 0b1111000000010000 0 = some (.brbs 0 2) ∧ encode (.brlo 2) = [0b1111000000010000] ∧
    decodeWords 0b1111000000010010 0 = some (.brbs 2 2) ∧ encode (.brmi 2) = [0b1111000000010010] ∧
    decodeWords 0b1111010000010010 0 = some (.brbc 2 2) ∧ encode (.brpl 2) = [0b1111010000010010] ∧
    decodeWords 0b1111010000010100 0 = some (.brbc 4 2) ∧ encode (.brge 2) = [0b1111010000010100] ∧
    decodeWords 0b1111000000010100 0 = some (.brbs 4 2) ∧ encode (.brlt 2) = [0b1111000000010100] ∧
    decodeWords 0b1111000000010101 0 = some (.brbs 5 2) ∧ encode (.brhs 2) = [0b1111000000010101] ∧
    decodeWords 0b1111010000010101 0 = some (.brbc 5 2) ∧ encode (.brhc 2) = [0b1111010000010101] ∧
    decodeWords 0b1111000000010110 0 = some (.brbs 6 2) ∧ encode (.brts 2) = [0b1111000000010110] ∧
    decodeWords 0b1111010000010110 0 = some (.brbc 6 2) ∧ encode (.brtc 2) = [0b1111010000010110] ∧
    decodeWords 0b1111000000010011 0 = some (.brbs 3 2) ∧ encode (.brvs 2) = [0b1111000000010011] ∧
    decodeWords 0b1111010000010011 0 = some (.brbc 3 2) ∧ encode (.brvc 2) = [0b1111010000010011] ∧
    decodeWords 0b1111000000010111 0 = some (.brbs 7 2) ∧ encode (.brie 2) = [0b1111000000010111] ∧
    decodeWords 0b1111010000010111 0 = some (.brbc 7 2) ∧ encode (.brid 2) = [0b1111010000010111] := by decide

/-- Format PairPair. -/
theorem test_decode_pairpair :
    decodeWords 0b0000000100011111 0 = some (.movw 2 30) ∧ encode (.movw 2 30) = [0b0000000100011111] := by decide

/-- Format LdSt. -/
theorem test_decode_ldst :
    decodeWords 0b1001000001011100 0 = some (.ldX 5) ∧ encode (.ldX 5) = [0b1001000001011100] ∧
    decodeWords 0b1001000000001101 0 = some (.ldXInc 0) ∧ encode (.ldXInc 0) = [0b1001000000001101] ∧
    decodeWords 0b1001000000001110 0 = some (.ldXDec 0) ∧ encode (.ldXDec 0) = [0b1001000000001110] ∧
    decodeWords 0b1001000001111001 0 = some (.ldYInc 7) ∧ encode (.ldYInc 7) = [0b1001000001111001] ∧
    decodeWords 0b1001000001111010 0 = some (.ldYDec 7) ∧ encode (.ldYDec 7) = [0b1001000001111010] ∧
    decodeWords 0b1001000000010001 0 = some (.ldZInc 1) ∧ encode (.ldZInc 1) = [0b1001000000010001] ∧
    decodeWords 0b1001000000010010 0 = some (.ldZDec 1) ∧ encode (.ldZDec 1) = [0b1001000000010010] ∧
    decodeWords 0b1001001001011100 0 = some (.stX 5) ∧ encode (.stX 5) = [0b1001001001011100] ∧
    decodeWords 0b1001001001011101 0 = some (.stXInc 5) ∧ encode (.stXInc 5) = [0b1001001001011101] ∧
    decodeWords 0b1001001001011110 0 = some (.stXDec 5) ∧ encode (.stXDec 5) = [0b1001001001011110] ∧
    decodeWords 0b1001001000001001 0 = some (.stYInc 0) ∧ encode (.stYInc 0) = [0b1001001000001001] ∧
    decodeWords 0b1001001000001010 0 = some (.stYDec 0) ∧ encode (.stYDec 0) = [0b1001001000001010] ∧
    decodeWords 0b1001001000010001 0 = some (.stZInc 1) ∧ encode (.stZInc 1) = [0b1001001000010001] ∧
    decodeWords 0b1001001000010010 0 = some (.stZDec 1) ∧ encode (.stZDec 1) = [0b1001001000010010] ∧
    decodeWords 0b1001000100000100 0 = some (.lpmZ 16) ∧ encode (.lpmZ 16) = [0b1001000100000100] ∧
    decodeWords 0b1001000100010101 0 = some (.lpmZInc 17) ∧ encode (.lpmZInc 17) = [0b1001000100010101] ∧
    decodeWords 0b1001001100001111 0 = some (.push 16) ∧ encode (.push 16) = [0b1001001100001111] ∧
    decodeWords 0b1001000100011111 0 = some (.pop 17) ∧ encode (.pop 17) = [0b1001000100011111] := by decide

/-- Format LddStd. -/
theorem test_decode_lddstd :
    decodeWords 0b1000000001111000 0 = some (.lddY 7 0) ∧ encode (.ldY 7) = [0b1000000001111000] ∧
    decodeWords 0b1010110001011111 0 = some (.lddY 5 63) ∧ encode (.lddY 5 63) = [0b1010110001011111] ∧
    decodeWords 0b1000000000000000 0 = some (.lddZ 0 0) ∧ encode (.ldZ 0) = [0b1000000000000000] ∧
    decodeWords 0b1010000000100000 0 = some (.lddZ 2 32) ∧ encode (.lddZ 2 32) = [0b1010000000100000] ∧
    decodeWords 0b1000001000001000 0 = some (.stdY 0 0) ∧ encode (.stY 0) = [0b1000001000001000] ∧
    decodeWords 0b1000001100001101 0 = some (.stdY 5 16) ∧ encode (.stdY 5 16) = [0b1000001100001101] ∧
    decodeWords 0b1000001000010000 0 = some (.stdZ 0 1) ∧ encode (.stZ 1) = [0b1000001000010000] ∧
    decodeWords 0b1010111000010111 0 = some (.stdZ 63 1) ∧ encode (.stdZ 63 1) = [0b1010111000010111] := by decide

/-- Format LdsSts. -/
theorem test_decode_ldssts :
    decodeWords 0b1001000100000000 0x0100 = some (.lds 16 0x0100) ∧ encode (.lds 16 0x0100) = [0b1001000100000000, 0x0100] ∧
    decodeWords 0b1001001000100000 0x08FF = some (.sts 0x08FF 2) ∧ encode (.sts 0x08FF 2) = [0b1001001000100000, 0x08FF] := by decide

/-- Format IO. -/
theorem test_decode_io :
    decodeWords 0b1011011100001111 0 = some (.inp 16 0x3F) ∧ encode (.inp 16 0x3F) = [0b1011011100001111] ∧
    decodeWords 0b1011111100001111 0 = some (.out 0x3F 16) ∧ encode (.out 0x3F 16) = [0b1011111100001111] := by decide

/-- Format SregBit. -/
theorem test_decode_sregbit :
    decodeWords 0b1001010001111000 0 = some (.bset 7) ∧ encode (.bset 7) = [0b1001010001111000] ∧
    decodeWords 0b1001010010001000 0 = some (.bclr 0) ∧ encode (.bclr 0) = [0b1001010010001000] ∧
    decodeWords 0b1001010000001000 0 = some (.bset 0) ∧ encode (.sec) = [0b1001010000001000] ∧
    decodeWords 0b1001010010001000 0 = some (.bclr 0) ∧ encode (.clc) = [0b1001010010001000] ∧
    decodeWords 0b1001010000101000 0 = some (.bset 2) ∧ encode (.sen) = [0b1001010000101000] ∧
    decodeWords 0b1001010010101000 0 = some (.bclr 2) ∧ encode (.cln) = [0b1001010010101000] ∧
    decodeWords 0b1001010000011000 0 = some (.bset 1) ∧ encode (.sez) = [0b1001010000011000] ∧
    decodeWords 0b1001010010011000 0 = some (.bclr 1) ∧ encode (.clz) = [0b1001010010011000] ∧
    decodeWords 0b1001010001111000 0 = some (.bset 7) ∧ encode (.sei) = [0b1001010001111000] ∧
    decodeWords 0b1001010011111000 0 = some (.bclr 7) ∧ encode (.cli) = [0b1001010011111000] ∧
    decodeWords 0b1001010001001000 0 = some (.bset 4) ∧ encode (.ses) = [0b1001010001001000] ∧
    decodeWords 0b1001010011001000 0 = some (.bclr 4) ∧ encode (.cls) = [0b1001010011001000] ∧
    decodeWords 0b1001010000111000 0 = some (.bset 3) ∧ encode (.sev) = [0b1001010000111000] ∧
    decodeWords 0b1001010010111000 0 = some (.bclr 3) ∧ encode (.clv) = [0b1001010010111000] ∧
    decodeWords 0b1001010001101000 0 = some (.bset 6) ∧ encode (.setT) = [0b1001010001101000] ∧
    decodeWords 0b1001010011101000 0 = some (.bclr 6) ∧ encode (.clt) = [0b1001010011101000] ∧
    decodeWords 0b1001010001011000 0 = some (.bset 5) ∧ encode (.seh) = [0b1001010001011000] ∧
    decodeWords 0b1001010011011000 0 = some (.bclr 5) ∧ encode (.clh) = [0b1001010011011000] := by decide

/-- Reserved first words (95_test_vectors.md section 2.6; 30_encoding.md R106). -/
theorem test_decode_reserved :
    [0x0001, 0x00FF, 0x9003, 0x9006, 0x9007, 0x9008, 0x900B, 0x9203, 0x9204, 0x9404, 0x940B, 0x9419, 0x9519, 0x9528,
      0x95B8, 0x95D8, 0x95F8, 0xF808, 0xFA08, 0xFC08, 0xFE0F, 0xFFFF].all
        (fun w => (decodeWords w 0x1234).isNone) = true := by decide

/-- The bytes of a two-word instruction, each word's low byte first, and the bytes after it (20_memory.md R60). -/
theorem test_decode_bytes : decode [0x0E, 0x94, 0x00, 0x04, 0x01, 0x0F] = .ok (.call 0x400, [0x01, 0x0F]) := by rfl
theorem test_decode_truncated :
    decode [0x0E, 0x94, 0x00] = .error .truncated ∧ decode [0x0E] = .error .truncated ∧
    decode [0x01, 0x00] = .error (.reserved 0x0001) := ⟨rfl, rfl, rfl⟩
theorem test_decode_table : decodeTableWord 32 0x0400940E = some (.call 0x400) ∧ decodeTableWord 16 0x9220 = some (.sts 0 2) := by
  decide
theorem test_fetch_word :
    gives (step (State.reset.withFetchWord 32 0x08FF9220)) (fun t => (t.sramByte 0x08FF, t.pc)) = some (0x00, 0x0002) := by
  decide

/-! ### One step of each instruction -/

theorem test_v3_add :
    gives (fetched (start [(16, 0x80), (17, 0x80)] 0x00 0x0000) [0x0F01]) (fun t => (t.reg 16, t.sreg.toByte, t.pc)) = some (0x00, 0x1B, 0x0001) := by decide
theorem test_v4_add :
    gives (fetched (start [(16, 0x08), (17, 0x08)] 0xC1 0x0000) [0x0F01]) (fun t => (t.reg 16, t.sreg.toByte, t.pc)) = some (0x10, 0xE0, 0x0001) := by decide
theorem test_v6_adc :
    gives (fetched (start [(2, 0xFF), (3, 0x00)] 0x01 0x0000) [0x1C23]) (fun t => (t.reg 2, t.sreg.toByte, t.pc)) = some (0x00, 0x23, 0x0001) := by decide
theorem test_v9_adc :
    gives (fetched (start [(2, 0x7F), (3, 0x80)] 0x00 0x0000) [0x1C23]) (fun t => (t.reg 2, t.sreg.toByte, t.pc)) = some (0xFF, 0x14, 0x0001) := by decide
theorem test_v11_adiw :
    gives (fetched (start [(26, 0xF0), (27, 0x7F)] 0x00 0x0000) [0x96DF]) (fun t => (t.reg 26, t.reg 27, t.sreg.toByte, t.pc)) = some (0x2F, 0x80, 0x0C, 0x0001) := by decide
theorem test_v12_adiw :
    gives (fetched (start [(30, 0x00), (31, 0x00)] 0x21 0x0000) [0x9630]) (fun t => (t.sreg.toByte, t.pc)) = some (0x22, 0x0001) := by decide
theorem test_v15_sub :
    gives (fetched (start [(16, 0x80), (17, 0x01)] 0x00 0x0000) [0x1B01]) (fun t => (t.reg 16, t.sreg.toByte, t.pc)) = some (0x7F, 0x38, 0x0001) := by decide
theorem test_v17_sub :
    gives (fetched (start [(16, 0x7F), (17, 0xFF)] 0x00 0x0000) [0x1B01]) (fun t => (t.reg 16, t.sreg.toByte, t.pc)) = some (0x80, 0x0D, 0x0001) := by decide
theorem test_v19_subi :
    gives (fetched (start [(17, 0x00)] 0x00 0x0000) [0x5F1F]) (fun t => (t.reg 17, t.sreg.toByte, t.pc)) = some (0x01, 0x21, 0x0001) := by decide
theorem test_v20_subi :
    gives (fetched (start [(31, 0x80)] 0x00 0x0000) [0x50F1]) (fun t => (t.reg 31, t.sreg.toByte, t.pc)) = some (0x7F, 0x38, 0x0001) := by decide
theorem test_v21_sbc :
    gives (fetched (start [(17, 0x00), (19, 0x00)] 0x03 0x0000) [0x0B13]) (fun t => (t.reg 17, t.sreg.toByte, t.pc)) = some (0xFF, 0x35, 0x0001) := by decide
theorem test_v23_sbc :
    gives (fetched (start [(17, 0x01), (19, 0x01)] 0x00 0x0000) [0x0B13]) (fun t => (t.reg 17, t.sreg.toByte, t.pc)) = some (0x00, 0x00, 0x0001) := by decide
theorem test_v25_sbci :
    gives (fetched (start [(17, 0x00)] 0x03 0x0000) [0x4010]) (fun t => (t.reg 17, t.sreg.toByte, t.pc)) = some (0xFF, 0x35, 0x0001) := by decide
theorem test_v27_sbci :
    gives (fetched (start [(17, 0x12)] 0x00 0x0000) [0x4112]) (fun t => (t.reg 17, t.sreg.toByte, t.pc)) = some (0x00, 0x00, 0x0001) := by decide
theorem test_v28_sbiw :
    gives (fetched (start [(24, 0x00), (25, 0x00)] 0x00 0x0000) [0x9701]) (fun t => (t.reg 24, t.reg 25, t.sreg.toByte, t.pc)) = some (0xFF, 0xFF, 0x15, 0x0001) := by decide
theorem test_v31_sbiw :
    gives (fetched (start [(30, 0x3F), (31, 0x00)] 0x01 0x0000) [0x97FF]) (fun t => (t.reg 30, t.sreg.toByte, t.pc)) = some (0x00, 0x02, 0x0001) := by decide
theorem test_v32_and :
    gives (fetched (start [(1, 0xF0), (2, 0x3C)] 0x21 0x0000) [0x2012]) (fun t => (t.reg 1, t.sreg.toByte, t.pc)) = some (0x30, 0x21, 0x0001) := by decide
theorem test_v33_and :
    gives (fetched (start [(1, 0x0F), (2, 0xF0)] 0x18 0x0000) [0x2012]) (fun t => (t.reg 1, t.sreg.toByte, t.pc)) = some (0x00, 0x02, 0x0001) := by decide
theorem test_v34_andi :
    gives (fetched (start [(16, 0xFF)] 0x00 0x0000) [0x7800]) (fun t => (t.reg 16, t.sreg.toByte, t.pc)) = some (0x80, 0x14, 0x0001) := by decide
theorem test_v35_or :
    gives (fetched (start [(1, 0x80), (2, 0x01)] 0x00 0x0000) [0x2812]) (fun t => (t.reg 1, t.sreg.toByte, t.pc)) = some (0x81, 0x14, 0x0001) := by decide
theorem test_v36_or :
    gives (fetched (start [(1, 0x00), (2, 0x00)] 0x0C 0x0000) [0x2812]) (fun t => (t.sreg.toByte, t.pc)) = some (0x02, 0x0001) := by decide
theorem test_v37_ori :
    gives (fetched (start [(31, 0x30)] 0x00 0x0000) [0x60FF]) (fun t => (t.reg 31, t.sreg.toByte, t.pc)) = some (0x3F, 0x00, 0x0001) := by decide
theorem test_v38_eor :
    gives (fetched (start [(4, 0xAA), (5, 0xFF)] 0x00 0x0000) [0x2445]) (fun t => (t.reg 4, t.sreg.toByte, t.pc)) = some (0x55, 0x00, 0x0001) := by decide
theorem test_v39_clr :
    gives (exec (.clr 4) (start [(4, 0x37)] 0x01 0x0000)) (fun t => (t.reg 4, t.sreg.toByte, t.pc)) = some (0x00, 0x03, 0x0001) := by decide
theorem test_v42_com :
    gives (fetched (start [(16, 0x55)] 0x20 0x0000) [0x9500]) (fun t => (t.reg 16, t.sreg.toByte, t.pc)) = some (0xAA, 0x35, 0x0001) := by decide
theorem test_v41_com :
    gives (fetched (start [(16, 0xFF)] 0x00 0x0000) [0x9500]) (fun t => (t.reg 16, t.sreg.toByte, t.pc)) = some (0x00, 0x03, 0x0001) := by decide
theorem test_v44_neg :
    gives (fetched (start [(16, 0x80)] 0x00 0x0000) [0x9501]) (fun t => (t.sreg.toByte, t.pc)) = some (0x0D, 0x0001) := by decide
theorem test_v46_neg :
    gives (fetched (start [(16, 0x10)] 0x00 0x0000) [0x9501]) (fun t => (t.reg 16, t.sreg.toByte, t.pc)) = some (0xF0, 0x15, 0x0001) := by decide
theorem test_v47_sbr :
    gives (exec (.sbr 16 0x81) (start [(16, 0x02)] 0x00 0x0000)) (fun t => (t.reg 16, t.sreg.toByte, t.pc)) = some (0x83, 0x14, 0x0001) := by decide
theorem test_v48_cbr :
    gives (exec (.cbr 16 0x0F) (start [(16, 0xAB)] 0x00 0x0000)) (fun t => (t.reg 16, t.sreg.toByte, t.pc)) = some (0xA0, 0x14, 0x0001) := by decide
theorem test_v49_inc :
    gives (fetched (start [(16, 0x7F)] 0x01 0x0000) [0x9503]) (fun t => (t.reg 16, t.sreg.toByte, t.pc)) = some (0x80, 0x0D, 0x0001) := by decide
theorem test_v50_inc :
    gives (fetched (start [(16, 0xFF)] 0x00 0x0000) [0x9503]) (fun t => (t.reg 16, t.sreg.toByte, t.pc)) = some (0x00, 0x02, 0x0001) := by decide
theorem test_v51_dec :
    gives (fetched (start [(16, 0x80)] 0x01 0x0000) [0x950A]) (fun t => (t.reg 16, t.sreg.toByte, t.pc)) = some (0x7F, 0x19, 0x0001) := by decide
theorem test_v53_dec :
    gives (fetched (start [(16, 0x01)] 0x00 0x0000) [0x950A]) (fun t => (t.reg 16, t.sreg.toByte, t.pc)) = some (0x00, 0x02, 0x0001) := by decide
theorem test_v54_tst :
    gives (exec (.tst 9) (start [(9, 0x80)] 0x08 0x0000)) (fun t => (t.sreg.toByte, t.pc)) = some (0x14, 0x0001) := by decide
theorem test_v55_tst :
    gives (exec (.tst 9) (start [(9, 0x00)] 0x00 0x0000)) (fun t => (t.sreg.toByte, t.pc)) = some (0x02, 0x0001) := by decide
theorem test_v56_ser :
    gives (exec (.ser 18) (start [] 0x02 0x0000)) (fun t => (t.reg 18, t.sreg.toByte, t.pc)) = some (0xFF, 0x02, 0x0001) := by decide
theorem test_v59_mul :
    gives (fetched (start [(0, 0x10), (1, 0x10)] 0x0C 0x0000) [0x9C01]) (fun t => (t.reg 0, t.reg 1, t.sreg.toByte, t.pc)) = some (0x00, 0x01, 0x0C, 0x0001) := by decide
theorem test_v57_mul :
    gives (fetched (start [(16, 0xFF), (17, 0xFF)] 0x00 0x0000) [0x9F01]) (fun t => (t.reg 0, t.reg 1, t.sreg.toByte, t.pc)) = some (0x01, 0xFE, 0x01, 0x0001) := by decide
theorem test_v62_muls :
    gives (fetched (start [(16, 0x80), (17, 0x7F)] 0x00 0x0000) [0x0201]) (fun t => (t.reg 0, t.reg 1, t.sreg.toByte, t.pc)) = some (0x80, 0xC0, 0x01, 0x0001) := by decide
theorem test_v60_muls :
    gives (fetched (start [(16, 0xFF), (17, 0xFF)] 0x00 0x0000) [0x0201]) (fun t => (t.reg 0, t.reg 1, t.sreg.toByte, t.pc)) = some (0x01, 0x00, 0x00, 0x0001) := by decide
theorem test_v63_mulsu :
    gives (fetched (start [(16, 0xFF), (17, 0xFF)] 0x00 0x0000) [0x0301]) (fun t => (t.reg 0, t.reg 1, t.sreg.toByte, t.pc)) = some (0x01, 0xFF, 0x01, 0x0001) := by decide
theorem test_v64_mulsu :
    gives (fetched (start [(16, 0x7F), (17, 0xFF)] 0x00 0x0000) [0x0301]) (fun t => (t.reg 0, t.reg 1, t.sreg.toByte, t.pc)) = some (0x81, 0x7E, 0x00, 0x0001) := by decide
theorem test_v67_fmul :
    gives (fetched (start [(16, 0xFF), (23, 0xFF)] 0x00 0x0000) [0x0378]) (fun t => (t.reg 0, t.reg 1, t.sreg.toByte, t.pc)) = some (0x02, 0xFC, 0x01, 0x0001) := by decide
theorem test_v65_fmul :
    gives (fetched (start [(16, 0x80), (17, 0x80)] 0x00 0x0000) [0x0309]) (fun t => (t.reg 0, t.reg 1, t.sreg.toByte, t.pc)) = some (0x00, 0x80, 0x00, 0x0001) := by decide
theorem test_v68_fmuls :
    gives (fetched (start [(16, 0x80), (17, 0x80)] 0x00 0x0000) [0x0381]) (fun t => (t.reg 0, t.reg 1, t.sreg.toByte, t.pc)) = some (0x00, 0x80, 0x00, 0x0001) := by decide
theorem test_v69_fmuls :
    gives (fetched (start [(16, 0xC0), (17, 0x40)] 0x00 0x0000) [0x0381]) (fun t => (t.reg 0, t.reg 1, t.sreg.toByte, t.pc)) = some (0x00, 0xE0, 0x01, 0x0001) := by decide
theorem test_v70_fmulsu :
    gives (fetched (start [(16, 0x80), (17, 0x80)] 0x00 0x0000) [0x0389]) (fun t => (t.reg 0, t.reg 1, t.sreg.toByte, t.pc)) = some (0x00, 0x80, 0x01, 0x0001) := by decide
theorem test_v71_fmulsu :
    gives (fetched (start [(16, 0xFF), (17, 0xFF)] 0x00 0x0000) [0x0389]) (fun t => (t.reg 0, t.reg 1, t.sreg.toByte, t.pc)) = some (0x02, 0xFE, 0x01, 0x0001) := by decide
theorem test_v103_rjmp :
    gives (fetched (start [] 0x00 0x3FFF) [0xC7FF]) (fun t => (t.sreg.toByte, t.pc)) = some (0x00, 0x07FF) := by decide
theorem test_v104_rjmp :
    gives (fetched (start [] 0x00 0x0000) [0xC800]) (fun t => (t.sreg.toByte, t.pc)) = some (0x00, 0x3801) := by decide
theorem test_v106_ijmp :
    gives (fetched (start [(30, 0x34), (31, 0xD2)] 0x00 0x0000) [0x9409]) (fun t => (t.sreg.toByte, t.pc)) = some (0x00, 0x1234) := by decide
theorem test_v107_jmp :
    gives (fetched (start [] 0x00 0x0010) [0x940C, 0x1234]) (fun t => (t.sreg.toByte, t.pc)) = some (0x00, 0x1234) := by decide
theorem test_v108_jmp :
    gives (fetched (start [] 0x00 0x0010) [0x95FD, 0x1234]) (fun t => (t.sreg.toByte, t.pc)) = some (0x00, 0x1234) := by decide
theorem test_v109_rcall :
    gives (fetched ((start [] 0x00 0x0123).setSp 0x8FF) [0xD010]) (fun t => (t.sramByte 0x08FE, t.sramByte 0x08FF, t.sp, t.sreg.toByte, t.pc)) = some (0x01, 0x24, 0x8FD, 0x00, 0x0134) := by decide
theorem test_v110_rcall :
    gives (fetched ((start [] 0x00 0x0000).setSp 0x8FF) [0xDFFF]) (fun t => (t.sramByte 0x08FE, t.sramByte 0x08FF, t.sp, t.sreg.toByte, t.pc)) = some (0x00, 0x01, 0x8FD, 0x00, 0x0000) := by decide
theorem test_v112_icall :
    gives (fetched ((start [(30, 0x00), (31, 0x20)] 0x00 0x01FF).setSp 0x8FD) [0x9509]) (fun t => (t.sramByte 0x08FC, t.sramByte 0x08FD, t.sp, t.sreg.toByte, t.pc)) = some (0x02, 0x00, 0x8FB, 0x00, 0x2000) := by decide
theorem test_v113_call :
    gives (fetched ((start [] 0x00 0x0056).setSp 0x8FF) [0x940E, 0x0400]) (fun t => (t.sramByte 0x08FE, t.sramByte 0x08FF, t.sp, t.sreg.toByte, t.pc)) = some (0x00, 0x58, 0x8FD, 0x00, 0x0400) := by decide
theorem test_v116_call :
    gives (fetched ((start [(30, 0x66), (31, 0x77)] 0x00 0x0056).setSp 0x01F) [0x940E, 0x0400]) (fun t => (t.reg 30, t.reg 31, t.sp, t.sreg.toByte, t.pc)) = some (0x00, 0x58, 0x01D, 0x00, 0x0400) := by decide
theorem test_v118_ret :
    gives (fetched ((((start [] 0x00 0x0400).setSp 0x8FD).setSramByte 0x08FE 0xC1).setSramByte 0x08FF 0x24) [0x9508]) (fun t => (t.sp, t.sreg.toByte, t.pc)) = some (0x8FF, 0x00, 0x0124) := by decide
theorem test_v119_ret :
    stops (fetched ((start [] 0x00 0x0400).setSp 0x8FF) [0x9508]) = some (.unmappedData 0x0900 .read) := by decide
theorem test_v121_reti :
    gives (fetched ((((start [] 0x81 0x0030).setSp 0x8FD).setSramByte 0x08FE 0x00).setSramByte 0x08FF 0x58) [0x9518]) (fun t => (t.sp, t.sreg.toByte, t.pc)) = some (0x8FF, 0x81, 0x0058) := by decide
theorem test_v123_cpse :
    gives (fetched (((start [(0, 0x55), (4, 0x55)] 0x00 0x0020).loadWord 0x0021 0x940C).loadWord 0x0022 0x1234) [0x1040]) (fun t => (t.sreg.toByte, t.pc)) = some (0x00, 0x0023) := by decide
theorem test_v126_cpse :
    gives (fetched ((start [(0, 0x55), (4, 0x55)] 0x00 0x3FFF).loadWord 0x0000 0x920F) [0x1040]) (fun t => (t.sreg.toByte, t.pc)) = some (0x00, 0x0001) := by decide
theorem test_v131_cp :
    gives (fetched (start [(16, 0x80), (17, 0x01)] 0x00 0x0000) [0x1701]) (fun t => (t.sreg.toByte, t.pc)) = some (0x38, 0x0001) := by decide
theorem test_v130_cp :
    gives (fetched (start [(16, 0x05), (17, 0x06)] 0x00 0x0000) [0x1701]) (fun t => (t.sreg.toByte, t.pc)) = some (0x35, 0x0001) := by decide
theorem test_v134_cpc :
    gives (fetched (start [(3, 0x12), (5, 0x12)] 0x00 0x0000) [0x0435]) (fun t => (t.sreg.toByte, t.pc)) = some (0x00, 0x0001) := by decide
theorem test_v136_cpc :
    gives (fetched (start [(3, 0x00), (5, 0xFF)] 0x03 0x0000) [0x0435]) (fun t => (t.sreg.toByte, t.pc)) = some (0x23, 0x0001) := by decide
theorem test_v138_cpi :
    gives (fetched (start [(19, 0x00)] 0x00 0x0000) [0x3F3F]) (fun t => (t.sreg.toByte, t.pc)) = some (0x21, 0x0001) := by decide
theorem test_v139_cpi :
    gives (fetched (start [(31, 0x7F)] 0x00 0x0000) [0x38F0]) (fun t => (t.sreg.toByte, t.pc)) = some (0x0D, 0x0001) := by decide
theorem test_v141_sbrc :
    gives (fetched ((start [(0, 0x80)] 0x00 0x0040).loadWord 0x0041 0x0000) [0xFC07]) (fun t => (t.sreg.toByte, t.pc)) = some (0x00, 0x0041) := by decide
theorem test_v142_sbrc :
    gives (fetched (((start [(0, 0x7F)] 0x00 0x0040).loadWord 0x0041 0x9200).loadWord 0x0042 0x0100) [0xFC07]) (fun t => (t.sreg.toByte, t.pc)) = some (0x00, 0x0043) := by decide
theorem test_v143_sbrs :
    gives (fetched ((start [(31, 0x01)] 0x00 0x0040).loadWord 0x0041 0xCFFF) [0xFFF0]) (fun t => (t.sreg.toByte, t.pc)) = some (0x00, 0x0042) := by decide
theorem test_v144_sbrs :
    gives (fetched ((start [(31, 0xFE)] 0x00 0x0040).loadWord 0x0041 0xCFFF) [0xFFF0]) (fun t => (t.sreg.toByte, t.pc)) = some (0x00, 0x0041) := by decide
theorem test_v149_brbs :
    gives (fetched (start [] 0x02 0x0100) [0xF3F1]) (fun t => (t.sreg.toByte, t.pc)) = some (0x02, 0x00FF) := by decide
theorem test_v153_brbs :
    gives (fetched (start [] 0x01 0x0010) [0xF200]) (fun t => (t.sreg.toByte, t.pc)) = some (0x01, 0x3FD1) := by decide
theorem test_v154_brbc :
    gives (fetched (start [] 0x00 0x0100) [0xF7FF]) (fun t => (t.sreg.toByte, t.pc)) = some (0x00, 0x0100) := by decide
theorem test_v155_brbc :
    gives (fetched (start [] 0x80 0x0100) [0xF7FF]) (fun t => (t.sreg.toByte, t.pc)) = some (0x80, 0x0101) := by decide
theorem test_v156_breq :
    gives (exec (.breq 2) (start [] 0x02 0x0100)) (fun t => (t.sreg.toByte, t.pc)) = some (0x02, 0x0103) := by decide
theorem test_v157_brne :
    gives (exec (.brne 2) (start [] 0x02 0x0100)) (fun t => (t.sreg.toByte, t.pc)) = some (0x02, 0x0101) := by decide
theorem test_v158_brcs :
    gives (exec (.brcs 2) (start [] 0x01 0x0100)) (fun t => (t.sreg.toByte, t.pc)) = some (0x01, 0x0103) := by decide
theorem test_v159_brcc :
    gives (exec (.brcc 2) (start [] 0x01 0x0100)) (fun t => (t.sreg.toByte, t.pc)) = some (0x01, 0x0101) := by decide
theorem test_v160_brsh :
    gives (exec (.brsh 2) (start [] 0x00 0x0100)) (fun t => (t.sreg.toByte, t.pc)) = some (0x00, 0x0103) := by decide
theorem test_v161_brlo :
    gives (exec (.brlo 2) (start [] 0x00 0x0100)) (fun t => (t.sreg.toByte, t.pc)) = some (0x00, 0x0101) := by decide
theorem test_v162_brmi :
    gives (exec (.brmi 2) (start [] 0x04 0x0100)) (fun t => (t.sreg.toByte, t.pc)) = some (0x04, 0x0103) := by decide
theorem test_v163_brpl :
    gives (exec (.brpl 2) (start [] 0x04 0x0100)) (fun t => (t.sreg.toByte, t.pc)) = some (0x04, 0x0101) := by decide
theorem test_v164_brge :
    gives (exec (.brge 2) (start [] 0x0C 0x0100)) (fun t => (t.sreg.toByte, t.pc)) = some (0x0C, 0x0103) := by decide
theorem test_v166_brlt :
    gives (exec (.brlt 2) (start [] 0x10 0x0100)) (fun t => (t.sreg.toByte, t.pc)) = some (0x10, 0x0103) := by decide
theorem test_v167_brhs :
    gives (exec (.brhs 2) (start [] 0x20 0x0100)) (fun t => (t.sreg.toByte, t.pc)) = some (0x20, 0x0103) := by decide
theorem test_v168_brhc :
    gives (exec (.brhc 2) (start [] 0x20 0x0100)) (fun t => (t.sreg.toByte, t.pc)) = some (0x20, 0x0101) := by decide
theorem test_v169_brts :
    gives (exec (.brts 2) (start [] 0x40 0x0100)) (fun t => (t.sreg.toByte, t.pc)) = some (0x40, 0x0103) := by decide
theorem test_v170_brtc :
    gives (exec (.brtc 2) (start [] 0x40 0x0100)) (fun t => (t.sreg.toByte, t.pc)) = some (0x40, 0x0101) := by decide
theorem test_v171_brvs :
    gives (exec (.brvs 2) (start [] 0x08 0x0100)) (fun t => (t.sreg.toByte, t.pc)) = some (0x08, 0x0103) := by decide
theorem test_v172_brvc :
    gives (exec (.brvc 2) (start [] 0x08 0x0100)) (fun t => (t.sreg.toByte, t.pc)) = some (0x08, 0x0101) := by decide
theorem test_v173_brie :
    gives (exec (.brie 2) (start [] 0x80 0x0100)) (fun t => (t.sreg.toByte, t.pc)) = some (0x80, 0x0103) := by decide
theorem test_v174_brid :
    gives (exec (.brid 2) (start [] 0x80 0x0100)) (fun t => (t.sreg.toByte, t.pc)) = some (0x80, 0x0101) := by decide
theorem test_v201_mov :
    gives (fetched (start [(31, 0xA5)] 0x02 0x0000) [0x2E1F]) (fun t => (t.reg 1, t.sreg.toByte, t.pc)) = some (0xA5, 0x02, 0x0001) := by decide
theorem test_v203_movw :
    gives (fetched (start [(24, 0xCD), (25, 0xAB)] 0x00 0x0000) [0x01DC]) (fun t => (t.reg 26, t.reg 27, t.sreg.toByte, t.pc)) = some (0xCD, 0xAB, 0x00, 0x0001) := by decide
theorem test_v204_ldi :
    gives (fetched (start [] 0x00 0x0000) [0xEA05]) (fun t => (t.reg 16, t.sreg.toByte, t.pc)) = some (0xA5, 0x00, 0x0001) := by decide
theorem test_v206_ldX :
    gives (fetched ((start [(26, 0x00), (27, 0x01)] 0x00 0x0000).setSramByte 0x0100 0x42) [0x905C]) (fun t => (t.reg 5, t.sreg.toByte, t.pc)) = some (0x42, 0x00, 0x0001) := by decide
theorem test_v207_ldX :
    gives (fetched (start [(16, 0x77), (26, 0x10), (27, 0x00)] 0x00 0x0000) [0x905C]) (fun t => (t.reg 5, t.sreg.toByte, t.pc)) = some (0x77, 0x00, 0x0001) := by decide
theorem test_v211_ldXInc :
    gives (fetched ((start [(26, 0xFF), (27, 0x01)] 0x00 0x0000).setSramByte 0x01FF 0x99) [0x900D]) (fun t => (t.reg 0, t.reg 26, t.reg 27, t.sreg.toByte, t.pc)) = some (0x99, 0x00, 0x02, 0x00, 0x0001) := by decide
theorem test_v212_ldXInc :
    stops (fetched ((start [(26, 0xFF), (27, 0x01)] 0x00 0x0000).setSramByte 0x01FF 0x99) [0x91AD]) = some (.undefinedOperand "LD X+" 26) := by decide
theorem test_v213_ldXDec :
    gives (fetched ((start [(26, 0x00), (27, 0x02)] 0x00 0x0000).setSramByte 0x01FF 0x99) [0x900E]) (fun t => (t.reg 0, t.reg 26, t.reg 27, t.sreg.toByte, t.pc)) = some (0x99, 0xFF, 0x01, 0x00, 0x0001) := by decide
theorem test_v214_ldXDec :
    stops (fetched (start [(26, 0x00), (27, 0x00)] 0x00 0x0000) [0x900E]) = some (.unmappedData 0xFFFF .read) := by decide
theorem test_v215_ldY :
    gives (exec (.ldY 7) ((start [(28, 0x34), (29, 0x02)] 0x00 0x0000).setSramByte 0x0234 0x11)) (fun t => (t.reg 7, t.sreg.toByte, t.pc)) = some (0x11, 0x00, 0x0001) := by decide
theorem test_v216_ldYInc :
    gives (fetched ((start [(28, 0xFF), (29, 0x08)] 0x00 0x0000).setSramByte 0x08FF 0x22) [0x9079]) (fun t => (t.reg 7, t.reg 28, t.reg 29, t.sreg.toByte, t.pc)) = some (0x22, 0x00, 0x09, 0x00, 0x0001) := by decide
theorem test_v218_lddY :
    gives (fetched ((start [(28, 0x00), (29, 0x01)] 0x00 0x0000).setSramByte 0x013F 0x5A) [0xAC5F]) (fun t => (t.reg 5, t.sreg.toByte, t.pc)) = some (0x5A, 0x00, 0x0001) := by decide
theorem test_v219_lddY :
    gives (fetched (start [(0, 0xEE), (28, 0xFF), (29, 0xFF)] 0x00 0x0000) [0x8059]) (fun t => (t.reg 5, t.sreg.toByte, t.pc)) = some (0xEE, 0x00, 0x0001) := by decide
theorem test_v220_ldZ :
    gives (exec (.ldZ 0) ((start [(30, 0x00), (31, 0x01)] 0x00 0x0000).setSramByte 0x0100 0x33)) (fun t => (t.reg 0, t.sreg.toByte, t.pc)) = some (0x33, 0x00, 0x0001) := by decide
theorem test_v221_ldZInc :
    gives (fetched ((start [(30, 0x00), (31, 0x01)] 0x00 0x0000).setSramByte 0x0100 0x33) [0x9011]) (fun t => (t.reg 1, t.reg 30, t.sreg.toByte, t.pc)) = some (0x33, 0x01, 0x00, 0x0001) := by decide
theorem test_v223_ldZDec :
    gives (fetched ((start [(30, 0x01), (31, 0x01)] 0x00 0x0000).setSramByte 0x0100 0x33) [0x9012]) (fun t => (t.reg 1, t.reg 30, t.sreg.toByte, t.pc)) = some (0x33, 0x00, 0x00, 0x0001) := by decide
theorem test_v224_lddZ :
    gives (fetched ((start [(30, 0x00), (31, 0x08)] 0x00 0x0000).setSramByte 0x0820 0x44) [0xA020]) (fun t => (t.reg 2, t.sreg.toByte, t.pc)) = some (0x44, 0x00, 0x0001) := by decide
theorem test_v225_lddZ :
    gives (fetched ((start [(30, 0x00), (31, 0x01)] 0x00 0x0000).setSramByte 0x0102 0x07) [0x81E2]) (fun t => (t.reg 30, t.sreg.toByte, t.pc)) = some (0x07, 0x00, 0x0001) := by decide
theorem test_v228_lds :
    gives (fetched ((start [] 0x00 0x0000).setSp 0x8FD) [0x9100, 0x005E]) (fun t => (t.reg 16, t.sreg.toByte, t.pc)) = some (0x08, 0x00, 0x0002) := by decide
theorem test_v226_lds :
    gives (fetched ((start [] 0x00 0x0000).setSramByte 0x0100 0x5C) [0x9100, 0x0100]) (fun t => (t.reg 16, t.sreg.toByte, t.pc)) = some (0x5C, 0x00, 0x0002) := by decide
theorem test_v232_stX :
    gives (fetched (start [(5, 0xAB), (26, 0x00), (27, 0x01)] 0x00 0x0000) [0x925C]) (fun t => (t.sramByte 0x0100, t.sreg.toByte, t.pc)) = some (0xAB, 0x00, 0x0001) := by decide
theorem test_v233_stX :
    gives (fetched (start [(5, 0xAB), (26, 0x1F), (27, 0x00), (30, 0x00), (31, 0x00)] 0x00 0x0000) [0x925C]) (fun t => (t.reg 31, t.sreg.toByte, t.pc)) = some (0xAB, 0x00, 0x0001) := by decide
theorem test_v235_stXInc :
    gives (fetched (start [(5, 0xAB), (26, 0xFF), (27, 0x08)] 0x00 0x0000) [0x925D]) (fun t => (t.reg 26, t.reg 27, t.sramByte 0x08FF, t.sreg.toByte, t.pc)) = some (0x00, 0x09, 0xAB, 0x00, 0x0001) := by decide
theorem test_v236_stXInc :
    stops (fetched (start [(26, 0xFF), (27, 0x08)] 0x00 0x0000) [0x93BD]) = some (.undefinedOperand "ST X+" 27) := by decide
theorem test_v237_stXDec :
    gives (fetched (start [(5, 0xAB), (26, 0x00), (27, 0x09)] 0x00 0x0000) [0x925E]) (fun t => (t.reg 26, t.reg 27, t.sramByte 0x08FF, t.sreg.toByte, t.pc)) = some (0xFF, 0x08, 0xAB, 0x00, 0x0001) := by decide
theorem test_v238_stY :
    gives (exec (.stY 0) (start [(0, 0x01), (28, 0x00), (29, 0x02)] 0x00 0x0000)) (fun t => (t.sramByte 0x0200, t.sreg.toByte, t.pc)) = some (0x01, 0x00, 0x0001) := by decide
theorem test_v239_stYInc :
    gives (fetched (start [(0, 0x01), (28, 0x00), (29, 0x02)] 0x00 0x0000) [0x9209]) (fun t => (t.reg 28, t.sramByte 0x0200, t.sreg.toByte, t.pc)) = some (0x01, 0x01, 0x00, 0x0001) := by decide
theorem test_v240_stYDec :
    gives (fetched (start [(0, 0x01), (28, 0x00), (29, 0x02)] 0x00 0x0000) [0x920A]) (fun t => (t.reg 28, t.reg 29, t.sramByte 0x01FF, t.sreg.toByte, t.pc)) = some (0xFF, 0x01, 0x01, 0x00, 0x0001) := by decide
theorem test_v241_stYDec :
    stops (fetched (start [(28, 0x00), (29, 0x02)] 0x00 0x0000) [0x93CA]) = some (.undefinedOperand "ST -Y" 28) := by decide
theorem test_v242_stdY :
    gives (fetched (start [(16, 0x77), (28, 0x00), (29, 0x02)] 0x00 0x0000) [0x830D]) (fun t => (t.sramByte 0x0205, t.sreg.toByte, t.pc)) = some (0x77, 0x00, 0x0001) := by decide
theorem test_v244_stZ :
    gives (exec (.stZ 1) (start [(1, 0x0F), (30, 0x5F), (31, 0x00)] 0x00 0x0000)) (fun t => (t.sreg.toByte, t.pc)) = some (0x0F, 0x0001) := by decide
theorem test_v245_stZInc :
    gives (fetched (start [(1, 0x0F), (30, 0xFE), (31, 0x08)] 0x00 0x0000) [0x9211]) (fun t => (t.reg 30, t.sramByte 0x08FE, t.sreg.toByte, t.pc)) = some (0xFF, 0x0F, 0x00, 0x0001) := by decide
theorem test_v246_stZDec :
    gives (fetched (start [(1, 0x0F), (30, 0x00), (31, 0x01)] 0x00 0x0000) [0x9212]) (fun t => (t.reg 30, t.reg 31, t.dev, t.sreg.toByte, t.pc)) = some (0xFF, 0x00, [.write 0xFF 0x0F], 0x00, 0x0001) := by decide
theorem test_v247_stdZ :
    gives (fetched (start [(1, 0x0F), (30, 0xC0), (31, 0x08)] 0x00 0x0000) [0xAE17]) (fun t => (t.sramByte 0x08FF, t.sreg.toByte, t.pc)) = some (0x0F, 0x00, 0x0001) := by decide
theorem test_v248_stdZ :
    stops (fetched (start [(1, 0x0F), (30, 0xC1), (31, 0x08)] 0x00 0x0000) [0xAE17]) = some (.unmappedData 0x0900 .write) := by decide
theorem test_v251_sts :
    gives (fetched ((start [(2, 0xF4)] 0x00 0x0000).setSp 0x8FF) [0x9220, 0x005E]) (fun t => (t.sp, t.sreg.toByte, t.pc)) = some (0x4FF, 0x00, 0x0002) := by decide
theorem test_v252_sts :
    gives (fetched (start [(2, 0x83)] 0x00 0x0000) [0x9220, 0x005F]) (fun t => (t.sreg.toByte, t.pc)) = some (0x83, 0x0002) := by decide
theorem test_v256_lpm :
    gives (fetched ((start [(30, 0x01), (31, 0x02)] 0x00 0x0000).loadWord 0x0100 0xBEEF) [0x95C8]) (fun t => (t.reg 0, t.sreg.toByte, t.pc)) = some (0xBE, 0x00, 0x0001) := by decide
theorem test_v257_lpmZ :
    gives (fetched ((start [(30, 0xFF), (31, 0x7F)] 0x00 0x0000).loadWord 0x3FFF 0x1234) [0x9104]) (fun t => (t.reg 16, t.sreg.toByte, t.pc)) = some (0x12, 0x00, 0x0001) := by decide
theorem test_v258_lpmZ :
    stops (fetched (start [(30, 0x00), (31, 0x80)] 0x00 0x0000) [0x9104]) = some (.unmappedProgram 0x8000) := by decide
theorem test_v260_lpmZInc :
    gives (fetched ((start [(30, 0xFF), (31, 0x01)] 0x00 0x0000).loadWord 0x00FF 0xCAFE) [0x9115]) (fun t => (t.reg 17, t.reg 30, t.reg 31, t.sreg.toByte, t.pc)) = some (0xCA, 0x00, 0x02, 0x00, 0x0001) := by decide
theorem test_v261_lpmZInc :
    stops (fetched ((start [(30, 0xFF), (31, 0x01)] 0x00 0x0000).loadWord 0x00FF 0xCAFE) [0x91E5]) = some (.undefinedOperand "LPM Rd,Z+" 30) := by decide
theorem test_v262_spm :
    stops (fetched (start [(0, 0x01), (1, 0x02), (30, 0x00), (31, 0x00)] 0x00 0x0000) [0x95E8]) = some (.unsupportedSpm) := by decide
theorem test_v263_inp :
    gives (fetched (start [] 0x83 0x0000) [0xB70F]) (fun t => (t.reg 16, t.sreg.toByte, t.pc)) = some (0x83, 0x83, 0x0001) := by decide
theorem test_v265_inp :
    gives (fetched ((start [] 0x00 0x0000).setSp 0x8F0) [0xB60E]) (fun t => (t.reg 0, t.sreg.toByte, t.pc)) = some (0x08, 0x00, 0x0001) := by decide
theorem test_v269_out :
    gives (fetched ((start [(16, 0xFF)] 0x00 0x0000).setSp 0x8FF) [0xBF0E]) (fun t => (t.sp, t.sreg.toByte, t.pc)) = some (0xFFF, 0x00, 0x0001) := by decide
theorem test_v270_out :
    gives (fetched (start [(16, 0x20)] 0x00 0x0000) [0xB905]) (fun t => (t.dev, t.sreg.toByte, t.pc)) = some ([.write 0x25 0x20], 0x00, 0x0001) := by decide
theorem test_v271_push :
    gives (fetched ((start [(16, 0x42)] 0x00 0x0000).setSp 0x8FF) [0x930F]) (fun t => (t.sramByte 0x08FF, t.sp, t.sreg.toByte, t.pc)) = some (0x42, 0x8FE, 0x00, 0x0001) := by decide
theorem test_v275_push :
    gives (fetched ((start [(16, 0x42)] 0x00 0x0000).setSp 0x05F) [0x930F]) (fun t => (t.sp, t.sreg.toByte, t.pc)) = some (0x05E, 0x42, 0x0001) := by decide
theorem test_v278_pop :
    gives (fetched ((start [(0, 0x99)] 0x00 0x0000).setSp 0xFFF) [0x911F]) (fun t => (t.reg 17, t.sp, t.sreg.toByte, t.pc)) = some (0x99, 0x000, 0x00, 0x0001) := by decide
theorem test_v277_pop :
    stops (fetched ((start [] 0x00 0x0000).setSp 0x8FF) [0x911F]) = some (.unmappedData 0x0900 .read) := by decide
theorem test_v305_lsl :
    gives (exec (.lsl 16) (start [(16, 0x81)] 0x00 0x0000)) (fun t => (t.reg 16, t.sreg.toByte, t.pc)) = some (0x02, 0x19, 0x0001) := by decide
theorem test_v306_lsl :
    gives (exec (.lsl 16) (start [(16, 0x48)] 0x00 0x0000)) (fun t => (t.reg 16, t.sreg.toByte, t.pc)) = some (0x90, 0x2C, 0x0001) := by decide
theorem test_v311_lsr :
    gives (fetched (start [(16, 0x01)] 0x24 0x0000) [0x9506]) (fun t => (t.reg 16, t.sreg.toByte, t.pc)) = some (0x00, 0x3B, 0x0001) := by decide
theorem test_v312_lsr :
    gives (fetched (start [(16, 0x80)] 0x00 0x0000) [0x9506]) (fun t => (t.reg 16, t.sreg.toByte, t.pc)) = some (0x40, 0x00, 0x0001) := by decide
theorem test_v317_rol :
    gives (exec (.rol 17) (start [(17, 0x88)] 0x01 0x0000)) (fun t => (t.reg 17, t.sreg.toByte, t.pc)) = some (0x11, 0x39, 0x0001) := by decide
theorem test_v320_rol :
    gives (exec (.rol 17) (start [(17, 0xFF)] 0x01 0x0000)) (fun t => (t.sreg.toByte, t.pc)) = some (0x35, 0x0001) := by decide
theorem test_v323_ror :
    gives (fetched (start [(17, 0x01)] 0x01 0x0000) [0x9517]) (fun t => (t.reg 17, t.sreg.toByte, t.pc)) = some (0x80, 0x15, 0x0001) := by decide
theorem test_v322_ror :
    gives (fetched (start [(17, 0x00)] 0x01 0x0000) [0x9517]) (fun t => (t.reg 17, t.sreg.toByte, t.pc)) = some (0x80, 0x0C, 0x0001) := by decide
theorem test_v326_asr :
    gives (fetched (start [(18, 0x81)] 0x00 0x0000) [0x9525]) (fun t => (t.reg 18, t.sreg.toByte, t.pc)) = some (0xC0, 0x15, 0x0001) := by decide
theorem test_v329_asr :
    gives (fetched (start [(18, 0x7E)] 0x01 0x0000) [0x9525]) (fun t => (t.reg 18, t.sreg.toByte, t.pc)) = some (0x3F, 0x00, 0x0001) := by decide
theorem test_v330_swap :
    gives (fetched (start [(1, 0xA5)] 0x02 0x0000) [0x9412]) (fun t => (t.reg 1, t.sreg.toByte, t.pc)) = some (0x5A, 0x02, 0x0001) := by decide
theorem test_v332_bst :
    gives (fetched (start [(3, 0x80)] 0x00 0x0000) [0xFA37]) (fun t => (t.sreg.toByte, t.pc)) = some (0x40, 0x0001) := by decide
theorem test_v333_bst :
    gives (fetched (start [(3, 0xFE)] 0x40 0x0000) [0xFA30]) (fun t => (t.sreg.toByte, t.pc)) = some (0x00, 0x0001) := by decide
theorem test_v334_bld :
    gives (fetched (start [(4, 0x00)] 0x40 0x0000) [0xF843]) (fun t => (t.reg 4, t.sreg.toByte, t.pc)) = some (0x08, 0x40, 0x0001) := by decide
theorem test_v335_bld :
    gives (fetched (start [(4, 0xFF)] 0x00 0x0000) [0xF847]) (fun t => (t.reg 4, t.sreg.toByte, t.pc)) = some (0x7F, 0x00, 0x0001) := by decide
theorem test_v337_bset :
    gives (fetched (start [] 0x01 0x0000) [0x9478]) (fun t => (t.sreg.toByte, t.pc)) = some (0x81, 0x0001) := by decide
theorem test_v338_bclr :
    gives (fetched (start [] 0x81 0x0000) [0x9488]) (fun t => (t.sreg.toByte, t.pc)) = some (0x80, 0x0001) := by decide
theorem test_v339_sec :
    gives (exec .sec (start [] 0x00 0x0000)) (fun t => (t.sreg.toByte, t.pc)) = some (0x01, 0x0001) := by decide
theorem test_v340_clc :
    gives (exec .clc (start [] 0xFF 0x0000)) (fun t => (t.sreg.toByte, t.pc)) = some (0xFE, 0x0001) := by decide
theorem test_v341_sez :
    gives (exec .sez (start [] 0x00 0x0000)) (fun t => (t.sreg.toByte, t.pc)) = some (0x02, 0x0001) := by decide
theorem test_v342_clz :
    gives (exec .clz (start [] 0xFF 0x0000)) (fun t => (t.sreg.toByte, t.pc)) = some (0xFD, 0x0001) := by decide
theorem test_v343_sen :
    gives (exec .sen (start [] 0x00 0x0000)) (fun t => (t.sreg.toByte, t.pc)) = some (0x04, 0x0001) := by decide
theorem test_v344_cln :
    gives (exec .cln (start [] 0xFF 0x0000)) (fun t => (t.sreg.toByte, t.pc)) = some (0xFB, 0x0001) := by decide
theorem test_v345_sev :
    gives (exec .sev (start [] 0x00 0x0000)) (fun t => (t.sreg.toByte, t.pc)) = some (0x08, 0x0001) := by decide
theorem test_v346_clv :
    gives (exec .clv (start [] 0xFF 0x0000)) (fun t => (t.sreg.toByte, t.pc)) = some (0xF7, 0x0001) := by decide
theorem test_v347_ses :
    gives (exec .ses (start [] 0x00 0x0000)) (fun t => (t.sreg.toByte, t.pc)) = some (0x10, 0x0001) := by decide
theorem test_v348_cls :
    gives (exec .cls (start [] 0xFF 0x0000)) (fun t => (t.sreg.toByte, t.pc)) = some (0xEF, 0x0001) := by decide
theorem test_v349_seh :
    gives (exec .seh (start [] 0x00 0x0000)) (fun t => (t.sreg.toByte, t.pc)) = some (0x20, 0x0001) := by decide
theorem test_v350_clh :
    gives (exec .clh (start [] 0xFF 0x0000)) (fun t => (t.sreg.toByte, t.pc)) = some (0xDF, 0x0001) := by decide
theorem test_v351_setT :
    gives (exec .setT (start [] 0x00 0x0000)) (fun t => (t.sreg.toByte, t.pc)) = some (0x40, 0x0001) := by decide
theorem test_v352_clt :
    gives (exec .clt (start [] 0xFF 0x0000)) (fun t => (t.sreg.toByte, t.pc)) = some (0xBF, 0x0001) := by decide
theorem test_v353_sei :
    gives (exec .sei (start [] 0x00 0x0000)) (fun t => (t.sreg.toByte, t.pc)) = some (0x80, 0x0001) := by decide
theorem test_v354_cli :
    gives (exec .cli (start [] 0xFF 0x0000)) (fun t => (t.sreg.toByte, t.pc)) = some (0x7F, 0x0001) := by decide
theorem test_v401_nop :
    gives (fetched (start [] 0x81 0x3FFF) [0x0000]) (fun t => (t.sreg.toByte, t.pc)) = some (0x81, 0x0000) := by decide
theorem test_v404_brk :
    gives (fetched (start [] 0x00 0x0040) [0x9598]) (fun t => (t.sreg.toByte, t.pc)) = some (0x00, 0x0041) := by decide

/- Vectors whose device registers the spec leaves open are replaced by GPIOR0 refined to plain storage (log 10): I/O 0x1E is
data 0x3E, and it reads as the byte last written to it. -/

/-- GPIOR0 holds `v`, and the next words are these. -/
def withPort (s : State) (v : Byte) : State :=
  { s with cfg := { s.cfg with gpiorStorage := true }, dev := [.write 0x3E v] }

theorem test_sbi : gives (fetched (withPort (start [] 0x00 0) 0x01) [0x9AF5]) (fun t => (t.dev, t.pc)) =
    some ([.write 0x3E 0x21, .read 0x3E, .write 0x3E 0x01], 0x0001) := by decide
theorem test_cbi : gives (fetched (withPort (start [] 0x00 0) 0x21) [0x98F0]) (fun t => (t.dev, t.pc)) =
    some ([.write 0x3E 0x20, .read 0x3E, .write 0x3E 0x21], 0x0001) := by decide
theorem test_sbic_taken : gives (fetched (withPort (start [] 0x00 0x40) 0x00) [0x99F5, 0xCFFE])
    (fun t => (t.dev, t.pc)) = some ([.read 0x3E, .write 0x3E 0x00], 0x0042) := by decide
theorem test_sbic_not : gives (fetched (withPort (start [] 0x00 0x40) 0x20) [0x99F5, 0xCFFE])
    (fun t => t.pc) = some 0x0041 := by decide
theorem test_sbis_taken : gives (fetched (withPort (start [] 0x00 0x40) 0x02) [0x9BF1, 0x940E, 0x0100])
    (fun t => t.pc) = some 0x0043 := by decide
theorem test_sbis_not : gives (fetched (withPort (start [] 0x00 0x40) 0x00) [0x9BF1, 0x940E, 0x0100])
    (fun t => t.pc) = some 0x0041 := by decide
theorem test_in_port : gives (fetched (withPort (start [] 0x00 0) 0x81) [0xB20E])
    (fun t => (t.reg 0, t.dev, t.pc)) = some (0x81, [.read 0x3E, .write 0x3E 0x81], 0x0001) := by decide
/-- R222 by hand: Y = 0x0200, decremented to 0x01FF, then the load. -/
theorem test_ldYDec : gives (fetched ((start [(28, 0x00), (29, 0x02)] 0x00 0).setSramByte 0x01FF 0x99) [0x907A])
    (fun t => (t.reg 7, t.ptr .y, t.pc)) = some (0x99, 0x01FF, 0x0001) := by decide
/-- V403, V407. -/
theorem test_wdr : gives (fetched (start [] 0x00 0x40) [0x95A8]) (fun t => (t.dev, t.pc)) = some ([.wdr], 0x0041) := by
  decide

/-- A state whose SLEEP is enabled or not, and with on-chip debug enabled or not. -/
def withCfg (sleep : SleepEnable) (ocd : Bool) (s : State) : State :=
  { s with cfg := { s.cfg with sleepEnable := sleep, ocdEnabled := ocd } }

theorem test_v405_sleep : gives (fetched (withCfg .never false (start [] 0x00 0x40)) [0x9588])
    (fun t => (t.sleeping, t.pc)) = some (false, 0x0041) := by decide
theorem test_v406_sleep : gives (fetched (withCfg .always false (start [] 0x00 0x40)) [0x9588])
    (fun t => (t.sleeping, t.pc)) = some (true, 0x0041) := by decide
theorem test_v409_brk : stops (fetched (withCfg .never true (start [] 0x00 0x40)) [0x9598]) = some .unsupportedBreak := by
  decide
theorem test_v410_erased : stops (step State.reset) = some (.illegalInstruction 0xFFFF 0x0000) := by decide
/-- RETI and SEI delay interrupts by one instruction (60_exceptions.md R319). -/
theorem test_inhibit : gives (exec .sei (start [] 0x00 0)) (fun t => t.inhibit) = some true ∧
    gives (exec .sei (start [] 0x80 0)) (fun t => t.inhibit) = some false ∧
    gives (exec .reti ((start [] 0x80 0).setSp 0x100)) (fun t => t.sreg.i && t.inhibit) = some true := by decide

/-! ### Interrupts, the environment and reset -/

/-- A state with sources 1..25 configured, these requests pending, I = 1, and the stack at `sp`. -/
def requesting (p : IntSet) (sp : Word) (level : IntSet) : State :=
  { (start [] 0x83 0x0123).setSp sp with
    pending := p, cfg := { ({} : Config) with intSources := 0x3FFFFFE, levelSources := level } }

/-- V412. -/
theorem test_v412_entry : gives (step (requesting 0x88 0x8FF 0))
    (fun t => (t.pc, t.sp, t.sramByte 0x8FF, t.sramByte 0x8FE)) = some (0x0006, 0x8FD, 0x23, 0x01) ∧
    gives (step (requesting 0x88 0x8FF 0)) (fun t => (t.sreg.toByte, t.pending, t.cycles)) = some (0x03, 0x80, 4) := by
  decide
/-- A level-type request persists (60_exceptions.md R316). -/
theorem test_entry_level : gives (step (requesting 0x88 0x8FF 0x8)) (fun t => t.pending) = some 0x88 := by decide
/-- V411: SEI, then CLI, with a request pending throughout. -/
theorem test_v411_sei_cli : gives (step (place { requesting 0x8 0x8FF 0 with sreg := Sreg.clear } 0x0123 [0x9478, 0x94F8]))
    (fun t => (t.pc, gives (step t) (fun u => (u.pc, u.sreg.i)))) = some (0x0124, some (0x0125, false)) := by decide
/-- An environment action raises a request of a configured source only (60_exceptions.md R340, R313). -/
theorem test_env_raise : ((envStep { requesting 0 0x8FF 0 with env := [{ raise := 0x3 }] }).pending = 0x2) := by
  decide
/-- With SP_BITS = 16 SPH keeps all its bits and SP wraps at 0xFFFF (92_eei_decisions.md D8); with 12 it does neither. -/
def wide (s : State) : State := { s with cfg := { s.cfg with spBits := .sixteen } }

theorem test_sp_bits :
    gives (exec (.out 0x3E 5) (wide (start [(5, 0xA9)] 0x00 0))) (fun t => t.stackPtr) = some 0xA9FF ∧
    gives (exec (.out 0x3E 5) (start [(5, 0xA9)] 0x00 0)) (fun t => t.stackPtr) = some 0x09FF ∧
    gives (exec (.push 5) ((wide (start [(5, 0xA9)] 0x00 0)).setSp 0)) (fun t => (t.reg 0, t.stackPtr)) = some (0xA9, 0xFFFF) ∧
    gives (exec (.push 5) ((start [(5, 0xA9)] 0x00 0).setSp 0)) (fun t => (t.reg 0, t.stackPtr)) = some (0xA9, 0x0FFF) := by
  decide
/-- A run ends at the self-jump, at the address the configuration names, or nowhere (D30). -/
def runsTo (h : HaltCondition) (k : Nat) : Option ProgAddr :=
  gives (State.runToHalt k { place (start [] 0x00 0) 0 [0xE001, 0x0000, 0xCFFF] with cfg := { haltCondition := h } })
    (fun t => t.pc)

theorem test_halt_condition : runsTo .selfJump 9 = some 2 ∧ runsTo (.reaches 1) 9 = some 1 ∧ runsTo .never 1 = some 1 := by
  decide
theorem test_core : core.reset = State.reset := rfl

/-! ### Clocks (70_reset_and_hazards.md R360, R361) -/

theorem test_clocks : gives (fetched (start [] 0x02 0x100) [0xF3F1]) (fun t => t.cycles) = some 2 ∧
    gives (fetched (start [] 0x00 0x100) [0xF3F1]) (fun t => t.cycles) = some 1 ∧
    gives (fetched (start [] 0x00 0x100) [0x940E, 0x0400]) (fun t => t.cycles) = some 4 := by decide

/-! ### Witnesses: states and operands that meet the hypotheses of each statement -/

/-- A store at the last SRAM byte, and then `RJMP -1`. -/
def storing : State := place (start [(2, 0xEE)] 0x00 0) 0 [0x9220, 0x08FF, 0xCFFF]

theorem witness_DecodeOfEncode : (Instr.adiw 30 63).wellFormed = true ∧ (Instr.mulsu 23 16).wellFormed = true ∧
    (Instr.call 0x3FFFFF).wellFormed = true ∧ Instr.clr 31 ≠ (Instr.clr 31).canonical := by decide
theorem witness_EncodeOfDecode : decodeWords 0x9220 0x08FF = some (.sts 0x08FF 2) ∧ decodeWords 0x0F01 0 = some (.add 16 17) := by
  decide
theorem witness_ReservedWords : decodeWords 0xFFFF 0 = none ∧ decodeWords 0x0000 0 = some .nop := by decide
theorem witness_StepKeepsInv : storing.Inv ∧ ∃ t, step storing = .next t ∧ t.sramByte 0x08FF = 0xEE :=
  ⟨by decide, next_of_gives (by decide)⟩
theorem witness_StepKeepsProgram : ∃ t, step storing = .next t ∧ t.pc = 0x0002 := next_of_gives (by decide)
theorem witness_StepRunsDecoded :
    let u := { envStep storing with inhibit := false }
    u.interruptDue (envStep storing).inhibit = none ∧ u.sleeping = false ∧
    decode u.fetchedBytes = .ok (.sts 0x08FF 2, []) := by
  refine ⟨by decide, by decide, by rfl⟩
/-- The second word of an instruction at the last word address is at address 0. -/
theorem witness_StepRunsDecoded_wrap :
    decode (State.fetchedBytes ((place (start [] 0x00 0x3FFF) 0x3FFF [0x940E, 0x0400]).setPc 0x3FFF)) = .ok (.call 0x400, []) := by
  rfl
theorem witness_ReservedWordFaults :
    let u := { envStep State.reset with inhibit := false }
    u.interruptDue (envStep State.reset).inhibit = none ∧ u.sleeping = false ∧
    decode u.fetchedBytes = .error (.reserved 0xFFFF) := by
  refine ⟨by decide, by decide, by rfl⟩

/-- What InterruptEntry asks of the state and the vector, whatever SP. -/
def entryPremises (s : State) (n : Nat) : Prop :=
  let u := envStep s
  u.sreg.i = true ∧ u.inhibit = false ∧ 1 ≤ n ∧ n ≤ 25 ∧ u.pending.getLsbD n = true ∧
    (∀ m, 1 ≤ m → m < n → u.pending.getLsbD m = false)

theorem entryPremises_first (sp : Word) : entryPremises (requesting 0x2 sp 0) 1 :=
  ⟨rfl, rfl, by decide, by decide, (by decide : (0x2#26).getLsbD 1 = true), by omega⟩

/-- With room in SRAM, at both ends of it. -/
theorem witness_InterruptEntry_first : entryPremises (requesting 0x2 0x101 0) 1 ∧ (envStep (requesting 0x2 0x101 0)).stackRoom 2 :=
  ⟨entryPremises_first _, by decide⟩
theorem witness_InterruptEntry_last : entryPremises { requesting 0x2000000 0x8FF 0 with sleeping := true } 25 ∧
    (envStep { requesting 0x2000000 0x8FF 0 with sleeping := true }).stackRoom 2 := by
  refine ⟨⟨rfl, rfl, by decide, by decide, rfl, fun m h1 h2 => ?_⟩, by decide⟩
  interval_cases m <;> rfl
/-- SP = 0x0100: the low byte goes to SRAM and the high byte to the device register at 0x00FF (60_exceptions.md R316). -/
theorem witness_InterruptEntry_device : entryPremises (requesting 0x2 0x100 0) 1 ∧
    gives (step (requesting 0x2 0x100 0)) (fun t => (t.pc, t.stackPtr, t.sramByte 0x100, t.dev)) =
      some (0x0002, 0x0FE, 0x23, [.write 0xFF 0x01]) := ⟨entryPremises_first _, by decide⟩
/-- SP = 0x0002: both bytes go to registers; SP = 0x0060: the low byte to a device, the high byte to SREG, which the byte
0x01 leaves with C set and I clear. -/
theorem witness_InterruptEntry_low :
    gives (step (requesting 0x2 0x002 0)) (fun t => (t.pc, t.stackPtr, t.reg 2, t.reg 1)) = some (0x0002, 0x000, 0x23, 0x01) ∧
    gives (step (requesting 0x2 0x060 0)) (fun t => (t.stackPtr, t.sreg.toByte, t.dev)) = some (0x05E, 0x01, [.write 0x60 0x23]) := by
  decide
/-- The vector of the one source that can become pending holds `RJMP -1`. -/
def ready : State := { place (requesting 0x2 0x8FF 0) 0x0002 [0xCFFF] with cfg := { intSources := 0x2 } }
theorem witness_InterruptEntry_ready : entryPremises ready 1 ∧ (envStep ready).readyForInterrupts ∧
    (envStep ready).cfg.requests.getLsbD 1 = true ∧ gives (step ready) (fun t => (t.pc, t.progWord t.pc)) = some (0x0002, 0xCFFF) := by
  refine ⟨⟨rfl, rfl, by decide, by decide, by decide, by omega⟩, ⟨by decide, fun n h => ?_⟩, by decide, by decide⟩
  have hn : n < 26 := by
    by_contra hc
    rw [BitVec.getLsbD_of_ge _ _ (by omega)] at h
    cases h
  interval_cases n <;> revert h <;> decide
theorem witness_InterruptEntryFaults :
    let u := envStep (requesting 0x8 0x900 0)
    u.sreg.i = true ∧ u.inhibit = false ∧ u.pending.getLsbD 3 = true ∧ 0x900 ≤ u.stackPtr.toNat := by decide
theorem witness_InterruptEntryFaults_second : (envStep (requesting 0x8 0x000 0)).stackPtr = 0x0000 ∧
    stops (step (requesting 0x8 0x000 0)) = some (.unmappedData 0x0FFF .write) ∧
    (wide (requesting 0x8 0x000 0)).stackPtr = 0x0000 ∧
    stops (step (wide (requesting 0x8 0x000 0))) = some (.unmappedData 0xFFFF .write) := by decide
theorem witness_InterruptPriority : lowestRequest {} 0x2000002 = some 1 ∧ lowestRequest {} 0x2000000 = some 25 ∧
    lowestRequest {} 0x1 = none := by decide
theorem witness_EnableDelaysInterrupts : (start [] 0x00 0).inhibit = false ∧ ∃ t, exec .sei (start [] 0x00 0) = .next t ∧ t.sreg.i = true :=
  ⟨rfl, next_of_gives (by decide)⟩
theorem witness_StuckAsleepStays : State.Inv { State.reset with sleeping := true } ∧ State.stuckAsleep { State.reset with sleeping := true } := by
  decide
theorem witness_StuckAsleepStays_enabled : State.stuckAsleep { start [] 0x80 0 with sleeping := true } := by decide
/-- A CPU asleep with no interrupt due, each way: sources configured and none pending; a request and IntInhibit; a request
and I clear. Without any of these it wakes. -/
theorem witness_SleepingIdle :
    (envStep { requesting 0 0x8FF 0 with sleeping := true }).sreg.i = true ∧
    (∀ n, 1 ≤ n → n ≤ 25 → (envStep { requesting 0 0x8FF 0 with sleeping := true }).pending.getLsbD n = false) ∧
    gives (step { requesting 0 0x8FF 0 with sleeping := true }) (fun t => (t.sleeping, t.pc)) = some (true, 0x0123) ∧
    gives (step { requesting 0x8 0x8FF 0 with sleeping := true, inhibit := true }) (fun t => (t.sleeping, t.inhibit, t.pc)) =
      some (true, false, 0x0123) ∧
    gives (step { requesting 0x8 0x8FF 0 with sleeping := true, sreg := Sreg.clear }) (fun t => (t.sleeping, t.pc)) =
      some (true, 0x0123) ∧
    gives (step { requesting 0x8 0x8FF 0 with sleeping := true }) (fun t => (t.sleeping, t.pc)) = some (false, 0x0006) := by
  refine ⟨by decide, fun n _ _ => BitVec.getLsbD_zero, by decide, by decide, by decide, by decide⟩
theorem witness_HaltedStays : (storing.setPc 2).Inv ∧ (storing.setPc 2).selfJumping ∧ (storing.setPc 2).halted := by decide
theorem witness_HaltedStays_reaches :
    let s := { storing.setPc 2 with cfg := { haltCondition := .reaches 2 } }
    s.Inv ∧ s.selfJumping ∧ s.halted := by decide
theorem witness_SourcelessMachine : storing.cfg.requests = 0 ∧ storing.pending = 0 ∧ storing.cfg.spontaneousReset = false ∧
    storing.sleeping = false := by decide
theorem witness_EnvironmentFrame : (requesting 0x8 0x8FF 0x8).cfg.spontaneousReset = false ∧
    (envStep { requesting 0x8 0x8FF 0x8 with env := [{ withdraw := 0x8, raise := 0x10 }] }).pending = 0x10 := by decide
/-- A reset is allowed, but the next action is none. -/
theorem witness_EnvironmentFrame_allowed :
    let s := { storing with env := [{ dev := some 7 }, { reset := some .external }], cfg := { spontaneousReset := true } }
    (∀ e rest, s.env = e :: rest → e.reset = none) ∧ (envStep s).dev = [.env 7] := by
  refine ⟨fun e rest h => ?_, by decide⟩
  cases h
  rfl
theorem witness_ResetDuringRun :
    let s := { storing with env := [{ reset := some .watchdog }], cfg := { storing.cfg with spontaneousReset := true } }
    s.env = { reset := some .watchdog } :: [] ∧ s.cfg.spontaneousReset = true ∧ ResetSource.watchdog ≠ .powerOn := by
  exact ⟨rfl, rfl, by decide⟩
theorem witness_PopAfterPush : ((start [] 0 0).setSp 0x100).stackRoom 1 ∧ (start [] 0 0).stackRoom 1 := by decide
theorem witness_ReturnAfterCall : ((start [] 0 0).setSp 0x101).stackRoom 2 ∧ (start [] 0 0).stackRoom 2 := by decide
/-- The frame statements: a push, whose stored address is SP, and a store at 0x0100. -/
theorem witness_Frames : (∃ t, exec (.push 2) storing = .next t ∧ t.sramByte 0x08FF = 0xEE) ∧
    storedAddrs (.push 2) storing = [0x08FF] ∧ (5 : Reg) ∉ destinations (.push 2) ∧ (7 : BitPos) ∉ flagsListed (.push 2) ∧
    movesSp (.sts 0x0100 2) = false ∧ storedAddrs (.sts 0x0100 2) storing = [0x0100] ∧
    ∃ t, exec (.sts 0x0100 2) storing = .next t ∧ t.sp = 0x8FF :=
  ⟨next_of_gives (by decide), by decide, by decide, by decide, by decide, by decide,
    next_of_gives (by decide)⟩
/-- Each clause of the data map at the ends of its range (20_memory.md R51, R52). -/
theorem witness_DataMap :
    dataCell {} 0x0000 = .register 0 ∧ dataCell {} 0x001F = .register 31 ∧ dataCell {} 0x0020 = .device ∧ dataCell {} 0x005C = .device ∧
    dataCell {} 0x005D = .spl ∧ dataCell {} 0x005E = .sph ∧ dataCell {} 0x005F = .sreg ∧ dataCell {} 0x0060 = .device ∧
    dataCell {} 0x00FF = .device ∧ dataCell {} 0x0100 = .sram ∧ dataCell {} 0x08FF = .sram ∧ dataCell {} 0x0900 = .unmapped ∧
    dataCell {} 0xFFFF = .unmapped := by decide
/-- Both sides of the bound of every pointer load and store, and the pointer's own registers. -/
theorem witness_PointerForms :
    ((start [(26, 0xFF), (27, 0x08)] 0 0).ptr .x).toNat = 0x8FF ∧ ((start [(26, 0x00), (27, 0x09)] 0 0).ptr .x).toNat = 0x900 ∧
    ((start [(28, 0x00), (29, 0x00)] 0 0).ptr .y - 1).toNat = 0xFFFF ∧ ((start [(30, 0x00), (31, 0x09)] 0 0).ptr .z - 1).toNat = 0x8FF ∧
    Pointer.z.low = 30 := by decide
/-- The calls: SP at the last SRAM byte, above it, and where only the second push leaves the map. -/
theorem witness_Calls : gives (exec .icall (start [] 0 0)) (fun t => t.sp) = some 0x8FD ∧
    stops (exec .icall ((start [] 0 0).setSp 0x900)) = some (.unmappedData 0x0900 .write) ∧
    stops (exec .icall ((start [] 0 0).setSp 0x000)) = some (.unmappedData 0x0FFF .write) := by decide
/-- The returns: both pops inside the map, only the first, and none. -/
theorem witness_Returns : gives (exec .ret ((start [] 0 0).setSp 0x00E)) (fun t => (t.pc, t.sp)) = some (0x0000, 0x010) ∧
    stops (exec .ret ((start [] 0 0).setSp 0x8FE)) = some (.unmappedData 0x0900 .read) ∧
    stops (exec .ret (start [] 0 0)) = some (.unmappedData 0x0900 .read) := by decide
/-- LPM: the last byte, the first address above it, and the pointer's own registers; an erased word is 0xFFFF. -/
theorem witness_ProgramLoadResult :
    gives (exec (.lpmZInc 29) (start [(30, 0xFF), (31, 0x7F)] 0 0)) (fun t => (t.reg 29, t.ptr .z)) = some (0xFF, 0x8000) ∧
    stops (exec (.lpmZInc 29) (start [(30, 0x00), (31, 0x80)] 0 0)) = some (.unmappedProgram 0x8000) ∧
    stops (exec (.lpmZInc 31) (start [(30, 0x00), (31, 0x80)] 0 0)) = some (.undefinedOperand "LPM Rd,Z+" 31) := by
  decide
/-- The modes of SLEEP and BREAK that no opaque value decides; with `.smcr` the two clauses divide on one bit. -/
theorem witness_ControlResult :
    (withCfg .always true storing).cfg.sleepEnable = .always ∧ (withCfg .never true storing).cfg.sleepEnable = .never ∧
    (withCfg .never true storing).cfg.ocdEnabled = true ∧ storing.cfg.ocdEnabled = false ∧
    storing.cfg.sleepEnable = .smcr := by decide

end Sys2Proof.Tests
end

section
/-!
PROOFS (00_scope.md). What a step does to a machine that nothing can divert: without a reset the environment touches
only devices, requests and its own schedule; with no interrupt possible an awake CPU then runs the instruction at the
pc; and `RJMP -1` changes nothing but the clock count.
-/

namespace Sys2Proof.Machine

/-! ### The environment -/

/-- Without a reset allowed, `EnvStep` writes devices, requests and its schedule only (60_exceptions.md R312, R340). -/
theorem envStep_eq_of_no_reset {s : State} (h : s.cfg.spontaneousReset = false) :
    envStep s = { s with dev := (envStep s).dev, pending := (envStep s).pending, env := (envStep s).env } := by
  obtain ⟨-, he⟩ | ⟨e, rest, -, he⟩ := envStep_cases s
  · rw [he]
  · obtain ha | ⟨_, -, hr, -⟩ := applyAction_cases e { s with env := rest }
    · rw [he, ha]
      rfl
    · exact absurd hr (by simp [h])

/-- Without a reset allowed, the environment never writes the CPU's own state (60_exceptions.md R312). -/
theorem sameCpu_envStep {s : State} (hr : s.cfg.spontaneousReset = false) : State.SameCpu s (envStep s) := by
  rw [envStep_eq_of_no_reset hr]
  constructor <;> rfl

theorem envStep_cycles {s : State} (hr : s.cfg.spontaneousReset = false) : (envStep s).cycles = s.cycles := by
  rw [envStep_eq_of_no_reset hr]

/-- Raising configured sources and withdrawing others leaves only configured sources pending. -/
theorem actOnDevices_pending_configured (e : EnvAction) {s : State} (h : s.pending &&& ~~~s.cfg.requests = 0) :
    (actOnDevices e s).pending &&& ~~~(actOnDevices e s).cfg.requests = 0 := by
  change ((s.pending ||| (e.raise &&& s.cfg.requests)) &&& ~~~(e.withdraw &&& s.cfg.levelSources)) &&&
    ~~~s.cfg.requests = 0
  ext n hn
  have hbit : s.pending[n] = true → s.cfg.requests[n] = true := by simpa [hn] using congrArg (·.getLsbD n) h
  cases hq : s.cfg.requests[n]
  · have hpn : s.pending[n] = false := by simpa [hq] using hbit
    simp [hq, hpn]
  · simp [hq]

/-- `EnvStep` leaves only configured sources pending (60_exceptions.md R313). -/
theorem envStep_pending_configured {s : State} (h : s.pending &&& ~~~s.cfg.requests = 0) :
    (envStep s).pending &&& ~~~(envStep s).cfg.requests = 0 := by
  obtain ⟨-, he⟩ | ⟨e, rest, -, he⟩ := envStep_cases s
  · rwa [he]
  · obtain ha | ⟨src, -, -, ha⟩ := applyAction_cases e { s with env := rest }
    · rw [he, ha]
      exact actOnDevices_pending_configured e h
    · rw [he, ha]
      exact BitVec.zero_and

/-! ### The choice between an interrupt and an instruction -/

theorem lowestRequest_zero (c : Config) : lowestRequest c 0 = none := by
  simp [lowestRequest]

/-- No interrupt is due where none is possible (60_exceptions.md R313, R314). -/
theorem interruptDue_of_interruptFree {s : State} (hfree : s.interruptFree)
    (hp : s.pending &&& ~~~s.cfg.requests = 0) (b : Bool) : s.interruptDue b = none := by
  obtain hi | hq := hfree
  · simp [State.interruptDue, hi]
  · have hzero : s.pending = 0 := by
      rwa [hq, show ~~~(0 : IntSet) = BitVec.allOnes 26 from rfl, BitVec.and_allOnes] at hp
    rw [State.interruptDue, hzero, lowestRequest_zero, ite_self]

/-- An awake CPU with no interrupt due runs one instruction (60_exceptions.md R340). -/
theorem cpuStep_awake {s : State} (hdue : State.interruptDue { s with inhibit := false } s.inhibit = none)
    (hs : s.sleeping = false) : cpuStep s = runInstr { s with inhibit := false } := by
  simp only [cpuStep, hdue]
  exact if_neg (by simp [hs])

/-- Where no interrupt and no reset is possible, a step of an awake CPU runs one instruction. -/
theorem step_undiverted {s : State} (hp : s.pending &&& ~~~s.cfg.requests = 0) (hfree : s.interruptFree)
    (hr : s.cfg.spontaneousReset = false) (hs : s.sleeping = false) :
    step s = runInstr { envStep s with inhibit := false } := by
  have hsame := sameCpu_envStep hr
  have hfree' : State.interruptFree { envStep s with inhibit := false } := by
    simpa only [State.interruptFree, hsame.sreg, hsame.cfg] using hfree
  exact cpuStep_awake (interruptDue_of_interruptFree hfree' (envStep_pending_configured hp) _) (hsame.sleeping.trans hs)

/-! ### `RJMP -1` -/

/-- 0xCFFF is `RJMP -1`, whatever word follows it (92_eei_decisions.md D30). -/
theorem decodeWords_selfJump (w : Word) : decodeWords 0xCFFF w = some (.rjmp (-1)) := rfl

theorem exec_rjmp (k : BitVec 12) (s : State) : exec (.rjmp k) s = .next (s.advance (1 + k.signExtend 14)) := rfl

/-- `RJMP -1` goes back to its own address (41_branch.md R165). -/
theorem exec_selfJump (s : State) : exec (.rjmp (-1)) s = .next s := by
  have hpc : s.pc + (1 + (-1 : BitVec 12).signExtend 14) = s.pc := by
    rw [show (1 + (-1 : BitVec 12).signExtend 14) = 0#14 by decide, BitVec.add_zero]
  rw [exec_rjmp, State.advance, hpc]
  rfl

/-- Running a self-jump counts its two clocks and does nothing else (70_reset_and_hazards.md R360). -/
theorem runInstr_selfJump {s : State} (h : s.progWord s.pc = 0xCFFF) : runInstr s = .next (s.tick 2) := by
  have hf : fetch s = .ok (.rjmp (-1)) := by rw [fetch_eq, h, decodeWords_selfJump]
  simp only [runInstr, hf, exec_selfJump, clocks]

/-! ### The states of a run's end, and what a step keeps of them -/

theorem State.SameCpu.progWord {s t : State} (h : State.SameCpu s t) (w : ProgAddr) : t.progWord w = s.progWord w := by
  simp only [State.progWord, State.progByte, h.flash]

theorem State.SameCpu.selfJumping {s t : State} (h : State.SameCpu s t) (hs : s.selfJumping) : t.selfJumping := by
  simpa only [State.selfJumping, State.interruptFree, h.progWord, h.pc, h.sleeping, h.sreg, h.cfg] using hs

theorem State.SameCpu.halted {s t : State} (h : State.SameCpu s t) (hs : s.halted) : t.halted := by
  obtain ⟨hc, hj⟩ | ⟨hc, hw⟩ := hs
  · exact .inl ⟨by rw [h.cfg, hc], h.selfJumping hj⟩
  · exact .inr ⟨by rw [h.cfg, h.pc, hc], by rw [h.sleeping, hw]⟩

/-- The step of a machine at a self-jump: the environment's action, and two clocks. -/
theorem step_selfJumping {s : State} (hp : s.pending &&& ~~~s.cfg.requests = 0) (h : s.selfJumping) :
    step s = .next (State.tick { envStep s with inhibit := false } 2) := by
  obtain ⟨hw, hs, hfree, hr⟩ := h
  have hsame := sameCpu_envStep hr
  have hw' : (envStep s).progWord (envStep s).pc = 0xCFFF := by rw [hsame.progWord, hsame.pc, hw]
  rw [step_undiverted hp hfree hr hs]
  exact runInstr_selfJump hw'

/-- A run ends at once where `HaltCondition` holds (60_exceptions.md R340). -/
theorem runToHalt_of_halted {s : State} (h : s.halted) (k : Nat) : State.runToHalt k s = .next s := by
  cases k with
  | zero => rfl
  | succ k => exact if_pos h

/-- Settles O20: a step at a self-jump is the environment's action and two clocks, and what `selfJumping` and `halted`
read is the CPU's own state, which neither touches. -/
theorem haltedStays : Obligations.HaltedStays := by
  intro s hinv hj
  obtain ⟨-, -, -, hp⟩ := hinv
  have ⟨_, _, _, hr⟩ := hj
  have hsame : State.SameCpu s (State.tick { envStep s with inhibit := false } 2) :=
    { sameCpu_envStep hr with }
  refine ⟨⟨_, step_selfJumping hp hj, hsame, ?_, hsame.selfJumping hj, hsame.halted⟩, runToHalt_of_halted⟩
  rw [State.tick_cycles, envStep_cycles hr]

end Sys2Proof.Machine
end

section
/-!
PROOFS (10_state.md). What the machine never changes: `Keeps` says that an operation leaves program memory and the
configuration alone and keeps the invariant. It is shown once for each operation that touches SRAM, SP or the pending
requests, and composed over everything a step can do. The invariant at reset, and the values of reset, come first.
-/

namespace Sys2Proof.Machine

/-! ### Reset -/

/-- Program memory is erased with no image loaded (70_reset_and_hazards.md R352). -/
theorem reset_progWord (w : ProgAddr) : State.reset.progWord w = 0xFFFF := by
  have herased (b : BitVec 15) : State.reset.progByte b = 0xFF := rfl
  rw [State.progWord, herased, herased]
  decide

/-- Settles O7: each value is the one `State.reset` is written with, and an erased word is two erased bytes. -/
theorem resetValues : Obligations.ResetValues :=
  ⟨rfl, rfl, rfl, by decide, rfl, rfl, rfl, reset_progWord⟩

/-- Settles O9: the reset memories list nothing, SP is RAMEND, nothing is pending. -/
theorem resetInv : Obligations.ResetInv :=
  have ⟨hsram, hflash⟩ := State.reset_wf
  ⟨hsram, hflash, by decide, BitVec.zero_and⟩

/-! ### Keeping program memory, configuration and invariant -/

/-- From `s` to `t`, program memory and the configuration are unchanged and the invariant is kept
(10_state.md R33, R36; 20_memory.md R69). -/
structure Keeps (s t : State) : Prop where
  flash : t.flash = s.flash
  cfg : t.cfg = s.cfg
  inv : s.Inv → t.Inv

theorem Keeps.refl (s : State) : Keeps s s := ⟨rfl, rfl, id⟩

theorem Keeps.trans {s t u : State} (h : Keeps s t) (h' : Keeps t u) : Keeps s u :=
  ⟨h'.flash.trans h.flash, h'.cfg.trans h.cfg, h'.inv ∘ h.inv⟩

/-- The invariant reads only SRAM, program memory, SP, the pending requests and the configuration. -/
theorem Keeps.of_same {s t : State} (hflash : t.flash = s.flash) (hcfg : t.cfg = s.cfg) (hsram : t.sram = s.sram)
    (hsp : t.sp = s.sp) (hpending : t.pending = s.pending) : Keeps s t :=
  ⟨hflash, hcfg, fun hs => by simpa only [State.Inv, hflash, hcfg, hsram, hsp, hpending] using hs⟩

theorem Keeps.progWord {s t : State} (h : Keeps s t) (w : ProgAddr) : t.progWord w = s.progWord w := by
  simp only [State.progWord, State.progByte, h.flash]

/-! ### The operations that touch what the invariant reads -/

theorem State.trimSp_lt (s : State) (a : Word) : (s.trimSp a).toNat < s.cfg.spBits.size := by
  rw [State.trimSp_toNat]
  exact Nat.mod_lt _ (by cases s.cfg.spBits <;> decide)

theorem keeps_setSp (s : State) (a : Word) : Keeps s (s.setSp a) :=
  ⟨rfl, rfl, fun ⟨hsram, hflash, _, hp⟩ => ⟨hsram, hflash, s.trimSp_lt a, hp⟩⟩

theorem keeps_setPtr (s : State) (p : Pointer) (v : Word) : Keeps s (s.setPtr p v) := .of_same rfl rfl rfl rfl rfl

theorem keeps_setSramByte (s : State) {a : Word} (h : 0x100 ≤ a.toNat) (h' : a.toNat ≤ 0x8FF) (v : Byte) :
    Keeps s (s.setSramByte a v) :=
  ⟨rfl, rfl, fun ⟨hsram, hflash, hsp, hp⟩ => ⟨s.wfSram_setSramByte hsram h h' v, hflash, hsp, hp⟩⟩

/-- A device write leaves the requests alone where no source is configured, and else configured ones only
(60_exceptions.md R313; log 5). -/
theorem deviceWrite_pending_cases (s : State) (a : Word) (v : Byte) :
    (s.cfg.requests = 0 → (s.deviceWrite a v).pending = s.pending) ∧
    (s.cfg.requests ≠ 0 → (s.deviceWrite a v).pending &&& ~~~s.cfg.requests = 0) := by
  refine ⟨fun hq => if_pos hq, fun hq => ?_⟩
  simp only [State.deviceWrite, if_neg hq, BitVec.and_assoc, BitVec.and_not_self]
  exact BitVec.and_zero

theorem deviceWrite_pending_configured {s : State} (h : s.pending &&& ~~~s.cfg.requests = 0) (a : Word) (v : Byte) :
    (s.deviceWrite a v).pending &&& ~~~s.cfg.requests = 0 := by
  obtain ⟨hnone, hsome⟩ := deviceWrite_pending_cases s a v
  by_cases hq : s.cfg.requests = 0
  · rwa [hnone hq]
  · exact hsome hq

theorem keeps_deviceWrite (s : State) (a : Word) (v : Byte) : Keeps s (s.deviceWrite a v) :=
  ⟨rfl, rfl, fun ⟨hsram, hflash, hsp, hp⟩ => ⟨hsram, hflash, hsp, deviceWrite_pending_configured hp a v⟩⟩

theorem keeps_memRead {a : Word} {s u : State} {v : Byte} (h : memRead a s = .ok (v, u)) : Keeps s u := by
  obtain rfl | rfl := memRead_state h
  · exact .refl _
  · exact .of_same rfl rfl rfl rfl rfl

theorem keeps_memWrite {a : Word} {v : Byte} {s u : State} (h : memWrite a v s = .ok u) : Keeps s u := by
  obtain ⟨_, rfl⟩ | ⟨-, rfl⟩ | ⟨-, rfl⟩ | ⟨-, rfl⟩ | ⟨-, -, rfl⟩ | ⟨h1, h2, rfl⟩ := memWrite_cases h
  · exact .of_same rfl rfl rfl rfl rfl
  · exact keeps_setSp _ _
  · exact keeps_setSp _ _
  · exact .of_same rfl rfl rfl rfl rfl
  · exact keeps_deviceWrite _ _ _
  · exact keeps_setSramByte _ h1 h2 _

theorem keeps_push8 {v : Byte} {s u : State} (h : push8 v s = .ok u) : Keeps s u := by
  obtain ⟨w, hw, rfl⟩ := push8_cases h
  exact (keeps_memWrite hw).trans (keeps_setSp _ _)

theorem keeps_pop8 {s u : State} {v : Byte} (h : pop8 s = .ok (v, u)) : Keeps s u := by
  rw [pop8_eq] at h
  exact (keeps_setSp _ _).trans (keeps_memRead h)

theorem keeps_pushPC {a : ProgAddr} {s u : State} (h : pushPC a s = .ok u) : Keeps s u := by
  obtain ⟨w, h1, h2⟩ := pushPC_cases h
  exact (keeps_push8 h1).trans (keeps_push8 h2)

theorem keeps_popPC {a : ProgAddr} {s u : State} (h : popPC s = .ok (a, u)) : Keeps s u := by
  obtain ⟨_, w, _, h1, h2, -⟩ := popPC_cases h
  exact (keeps_pop8 h1).trans (keeps_pop8 h2)

/-! ### Everything a step does -/

theorem Did.keeps {i : Instr} {s t : State} (hdid : Did i s t) : Keeps s t := by
  cases hdid with
  | endReg d v r e | endPair d v r e | endFlags r e | writeFlag f x e | pc a e | skipIO a b e | lpmInc d v e
  | sleep b e | wdr e =>
    subst e
    exact .of_same rfl rfl rfl rfl rfl
  | load d a n v u h e | loadInc p d v u h e =>
    subst e
    exact (keeps_memRead h).trans (.of_same rfl rfl rfl rfl rfl)
  | loadDec p d v u h e =>
    subst e
    exact (keeps_setPtr s p _).trans ((keeps_memRead h).trans (.of_same rfl rfl rfl rfl rfl))
  | store a v n u h e | storeInc p v u h e =>
    subst e
    exact (keeps_memWrite h).trans (.of_same rfl rfl rfl rfl rfl)
  | storeDec p v u h e =>
    subst e
    exact (keeps_setPtr s p _).trans ((keeps_memWrite h).trans (.of_same rfl rfl rfl rfl rfl))
  | call r a u w h1 h2 e =>
    subst e
    exact (keeps_push8 h1).trans ((keeps_push8 h2).trans (.of_same rfl rfl rfl rfl rfl))
  | ret a u h e | reti a u h e =>
    subst e
    exact (keeps_popPC h).trans (.of_same rfl rfl rfl rfl rfl)
  | push v u h e =>
    subst e
    exact (keeps_push8 h).trans (.of_same rfl rfl rfl rfl rfl)
  | pop d v u h e =>
    subst e
    exact (keeps_pop8 h).trans (.of_same rfl rfl rfl rfl rfl)
  | modIO a v e =>
    subst e
    have hread : Keeps s (s.deviceAfterRead (ioAddr5 s.cfg a)) := .of_same rfl rfl rfl rfl rfl
    exact hread.trans ((keeps_deviceWrite _ _ v).trans (.of_same rfl rfl rfl rfl rfl))

/-- Every instruction that completes keeps program memory, configuration and invariant. -/
theorem exec_keeps {i : Instr} {s t : State} (h : exec i s = .next t) : Keeps s t := (exec_did h).keeps

/-- Acknowledging a request adds none. -/
theorem keeps_acknowledge (s : State) (n : Nat) : Keeps s (s.acknowledge n) := by
  unfold State.acknowledge
  split
  · exact .refl s
  · refine ⟨rfl, rfl, fun ⟨hsram, hflash, hsp, hp⟩ => ⟨hsram, hflash, hsp, ?_⟩⟩
    change s.pending &&& ~~~(1#26 <<< n) &&& ~~~s.cfg.requests = 0
    rw [BitVec.and_assoc, BitVec.and_comm (~~~_), ← BitVec.and_assoc, hp]
    exact BitVec.zero_and

theorem takeInterrupt_keeps {n : Nat} {s t : State} (h : takeInterrupt n s = .ok t) : Keeps s t := by
  obtain ⟨u, hu, rfl⟩ := takeInterrupt_cases h
  have hsreg : Keeps (s.acknowledge n) ((s.acknowledge n).setSreg { (s.acknowledge n).sreg with i := false }) :=
    .of_same rfl rfl rfl rfl rfl
  exact (keeps_acknowledge s n).trans (hsreg.trans ((keeps_pushPC hu).trans (.of_same rfl rfl rfl rfl rfl)))

theorem keeps_actOnDevices (e : EnvAction) (s : State) : Keeps s (actOnDevices e s) :=
  ⟨rfl, rfl, fun ⟨hsram, hflash, hsp, hp⟩ => ⟨hsram, hflash, hsp, actOnDevices_pending_configured e hp⟩⟩

/-- After a reset SRAM is kept or unwritten, SP is RAMEND and nothing is pending (70_reset_and_hazards.md R350, R351). -/
theorem keeps_resetEvent (src : ResetSource) (s : State) : Keeps s (resetEvent src s) := by
  unfold resetEvent
  refine ⟨rfl, rfl, fun ⟨hsram, hflash, _, _⟩ => ⟨?_, hflash, ?_, BitVec.zero_and⟩⟩
  · change Memory.wfSram s.cfg.hw (if src = .powerOn then [] else s.sram)
    split
    · exact ⟨.nil, nofun⟩
    · exact hsram
  · change 0x8FF < s.cfg.spBits.size
    cases s.cfg.spBits <;> decide

theorem keeps_envStep (s : State) : Keeps s (envStep s) := by
  obtain ⟨-, he⟩ | ⟨e, rest, -, he⟩ := envStep_cases s
  · rw [he]
    exact .refl s
  · have htake : Keeps s { s with env := rest } := .of_same rfl rfl rfl rfl rfl
    have hact := htake.trans (keeps_actOnDevices e _)
    obtain ha | ⟨src, -, -, ha⟩ := applyAction_cases e { s with env := rest }
    · rwa [he, ha]
    · rw [he, ha]
      exact hact.trans (keeps_resetEvent src _)

/-- A step keeps program memory, configuration and invariant: the environment's action does, and so does what the CPU
then does (60_exceptions.md R340). -/
theorem step_keeps {s t : State} (h : step s = .next t) : Keeps s t := by
  have henv : Keeps s { envStep s with inhibit := false } := (keeps_envStep s).trans (.of_same rfl rfl rfl rfl rfl)
  obtain ⟨n, u, -, hu, rfl⟩ | ⟨-, -, rfl⟩ | ⟨i, u, -, -, -, hu, rfl⟩ := step_cases h
  · exact henv.trans ((takeInterrupt_keeps hu).trans (.of_same rfl rfl rfl rfl rfl))
  · exact henv
  · exact henv.trans ((exec_keeps hu).trans (.of_same rfl rfl rfl rfl rfl))

/-- Settles O10, by `Keeps` over everything a step does. -/
theorem stepKeepsInv : Obligations.StepKeepsInv :=
  fun _ _ hinv h => (step_keeps h).inv hinv

/-- Settles O11, by `Keeps` over everything a step does. -/
theorem stepKeepsProgram : Obligations.StepKeepsProgram :=
  fun _ _ h => ⟨(step_keeps h).progWord, (step_keeps h).flash, (step_keeps h).cfg⟩

end Sys2Proof.Machine
end

section
/-!
PROOFS (10_state.md). What an instruction leaves unchanged in the registers, SP and the indirect state: `Framed` says it
for a stretch of the instruction `i` that stores to the addresses `A`. One lemma for each operation of the state, and an
instruction's frame is composed of them along the cases of `Did`.
-/

namespace Sys2Proof.Machine

/-- From `s` to `t` nothing changes but what the instruction `i` may change while it stores to the addresses `A`. -/
structure Framed (i : Instr) (A : List Word) (s t : State) : Prop where
  regs : ∀ r : Reg, r ∉ destinations i → BitVec.ofNat 16 r.val ∉ A → t.reg r = s.reg r
  sp : movesSp i = false → 0x5D ∉ A → 0x5E ∉ A → t.sp = s.sp
  sleeping : i ≠ .sleep → t.sleeping = s.sleeping
  pending : (∀ a ∈ A, a.toNat < 0x20 ∨ 0xFF < a.toNat) → t.pending = s.pending
  dev : ∃ l, t.dev = l ++ s.dev
  env : t.env = s.env
  powerUp : t.powerUp = s.powerUp
  cycles : t.cycles = s.cycles

section
variable {i : Instr} {A : List Word} {s t u : State}

theorem Framed.refl : Framed i A s s :=
  ⟨fun _ _ _ => rfl, fun _ _ _ => rfl, fun _ => rfl, fun _ => rfl, ⟨[], rfl⟩, rfl, rfl, rfl⟩

theorem Framed.trans (h : Framed i A s t) (h' : Framed i A t u) : Framed i A s u where
  regs r hd hA := (h'.regs r hd hA).trans (h.regs r hd hA)
  sp hm hl hh := (h'.sp hm hl hh).trans (h.sp hm hl hh)
  sleeping hi := (h'.sleeping hi).trans (h.sleeping hi)
  pending hA := (h'.pending hA).trans (h.pending hA)
  dev := by
    obtain ⟨l, hl⟩ := h.dev
    obtain ⟨l', hl'⟩ := h'.dev
    exact ⟨l' ++ l, by rw [hl', hl, List.append_assoc]⟩
  env := h'.env.trans h.env
  powerUp := h'.powerUp.trans h.powerUp
  cycles := h'.cycles.trans h.cycles

/-! ### Operations that touch nothing of the frame -/

theorem framed_setPc (a : ProgAddr) : Framed i A s (s.setPc a) := { Framed.refl (s := s) with }

theorem framed_advance (n : ProgAddr) : Framed i A s (s.advance n) := framed_setPc _

theorem framed_setSreg (r : Sreg) : Framed i A s (s.setSreg r) := { Framed.refl (s := s) with }

theorem framed_writeSreg (r : Sreg) : Framed i A s (s.writeSreg r) := { Framed.refl (s := s) with }

theorem framed_inhibitOne : Framed i A s s.inhibitOne := { Framed.refl (s := s) with }

theorem framed_setSramByte (a : Word) (v : Byte) : Framed i A s (s.setSramByte a v) := { Framed.refl (s := s) with }

/-! ### Operations that touch one part of it -/

/-- A register is written as a destination, or through its data-space address (20_memory.md R51). -/
theorem framed_setReg {d : Reg} (h : d ∈ destinations i ∨ BitVec.ofNat 16 d.val ∈ A) (v : Byte) :
    Framed i A s (s.setReg d v) :=
  { Framed.refl (s := s) with
    regs := fun r hd hA => by
      refine State.setReg_reg_ne s v ?_
      rintro rfl
      exact h.elim hd hA }

theorem framed_setPair {d : Reg} (h : d ∈ destinations i) (h' : d + 1 ∈ destinations i) (v : Word) :
    Framed i A s (s.setPair d v) :=
  (framed_setReg (.inl h) _).trans (framed_setReg (.inl h') _)

theorem framed_setPtr {p : Pointer} (h : p.low ∈ destinations i) (h' : p.low + 1 ∈ destinations i) (v : Word) :
    Framed i A s (s.setPtr p v) := framed_setPair h h' v

/-- SP is written by a stack instruction, or through SPL or SPH (10_state.md R29). -/
theorem framed_setSp (h : movesSp i = true ∨ 0x5D ∈ A ∨ 0x5E ∈ A) (a : Word) : Framed i A s (s.setSp a) :=
  { Framed.refl (s := s) with
    sp := fun hm hl hh => by
      obtain h | h | h := h
      · exact absurd h (by simp [hm])
      · exact absurd h hl
      · exact absurd h hh }

theorem framed_device (e : DevEvent) : Framed i A s { s with dev := e :: s.dev } :=
  { Framed.refl (s := s) with dev := ⟨[e], rfl⟩ }

theorem framed_deviceAfterRead (a : Word) : Framed i A s (s.deviceAfterRead a) := framed_device _

theorem framed_deviceWdr : Framed i A s s.deviceWdr := framed_device _

/-- Requests change only where a device address is stored to (20_memory.md R56). -/
theorem framed_deviceWrite {a : Word} (ha : a ∈ A) (h : 0x20 ≤ a.toNat) (h' : a.toNat ≤ 0xFF) (v : Byte) :
    Framed i A s (s.deviceWrite a v) :=
  { framed_device (s := s) (.write a v) with
    pending := fun hA => absurd (hA a ha) (by omega) }

/-! ### The data space and the stack -/

theorem framed_memRead {a : Word} {v : Byte} (h : memRead a s = .ok (v, u)) : Framed i A s u := by
  obtain rfl | rfl := memRead_state h
  · exact .refl
  · exact framed_deviceAfterRead a

theorem framed_memWrite {a : Word} {v : Byte} (h : memWrite a v s = .ok u) (ha : a ∈ A) : Framed i A s u := by
  obtain ⟨_, rfl⟩ | ⟨rfl, rfl⟩ | ⟨rfl, rfl⟩ | ⟨-, rfl⟩ | ⟨h1, h2, rfl⟩ | ⟨-, -, rfl⟩ := memWrite_cases h
  · exact framed_setReg (.inr (by simpa using ha)) v
  · exact framed_setSp (.inr (.inl ha)) _
  · exact framed_setSp (.inr (.inr ha)) _
  · exact framed_writeSreg _
  · exact framed_deviceWrite ha h1 h2 v
  · exact framed_setSramByte a v

theorem framed_push8 {v : Byte} (h : push8 v s = .ok u) (ha : s.stackPtr ∈ A) (hs : movesSp i = true) :
    Framed i A s u := by
  obtain ⟨w, hw, rfl⟩ := push8_cases h
  exact (framed_memWrite hw ha).trans (framed_setSp (.inl hs) _)

theorem framed_pop8 {v : Byte} (h : pop8 s = .ok (v, u)) (hs : movesSp i = true) : Framed i A s u := by
  rw [pop8_eq] at h
  exact (framed_setSp (.inl hs) _).trans (framed_memRead h)

theorem framed_popPC {a : ProgAddr} (h : popPC s = .ok (a, u)) (hs : movesSp i = true) : Framed i A s u := by
  obtain ⟨_, w, _, h1, h2, -⟩ := popPC_cases h
  exact (framed_pop8 h1 hs).trans (framed_pop8 h2 hs)

/-- A 5-bit I/O address is a device's (41_branch.md R179). -/
theorem ioAddr5_bounds (c : Config) (a : BitVec 5) : 0x20 ≤ (ioAddr5 c a).toNat ∧ (ioAddr5 c a).toNat ≤ 0xFF := by
  have ha := a.isLt
  simp only [ioAddr5, Config.hw_ioOffset, BitVec.toNat_ofNat]
  omega

/-! ### Every instruction -/

theorem Did.framed (h : Did i s t) : Framed i (storedAddrs i s) s t := by
  cases h with
  | endReg d v r e hd =>
    subst e
    exact (framed_setReg (.inl hd) v).trans ((framed_setSreg r).trans (framed_advance 1))
  | endPair d v r e hd hd' =>
    subst e
    exact (framed_setPair hd hd' v).trans ((framed_setSreg r).trans (framed_advance 1))
  | endFlags r e =>
    subst e
    exact (framed_setSreg r).trans (framed_advance 1)
  | writeFlag f x e =>
    subst e
    exact (framed_writeSreg _).trans (framed_advance 1)
  | pc a e =>
    subst e
    exact framed_setPc a
  | load d a n v u h e hd =>
    subst e
    exact (framed_memRead h).trans ((framed_setReg (.inl hd) v).trans (framed_advance n))
  | loadInc p d v u h e hd hp hp' =>
    subst e
    exact (framed_memRead h).trans
      ((framed_setReg (.inl hd) v).trans ((framed_setPtr hp hp' _).trans (framed_advance 1)))
  | loadDec p d v u h e hd hp hp' =>
    subst e
    exact (framed_setPtr hp hp' _).trans
      ((framed_memRead h).trans ((framed_setReg (.inl hd) v).trans (framed_advance 1)))
  | store a v n u h e ha =>
    subst e
    exact (framed_memWrite h ha).trans (framed_advance n)
  | storeInc p v u h e ha hp hp' =>
    subst e
    exact (framed_memWrite h ha).trans ((framed_setPtr hp hp' _).trans (framed_advance 1))
  | storeDec p v u h e ha hp hp' =>
    subst e
    exact (framed_setPtr hp hp' _).trans ((framed_memWrite h ha).trans (framed_advance 1))
  | call r a u w h1 h2 e ha hs =>
    subst e
    have hfst : s.stackPtr ∈ storedAddrs i s := by simp [ha]
    have hsnd : u.stackPtr ∈ storedAddrs i s := by simp [ha]
    exact (framed_push8 h1 hfst hs).trans ((framed_push8 h2 hsnd hs).trans (framed_setPc a))
  | ret a u h e hs =>
    subst e
    exact (framed_popPC h hs).trans (framed_setPc a)
  | reti a u h e hi =>
    subst e hi
    exact (framed_popPC h rfl).trans ((framed_setPc a).trans ((framed_setSreg _).trans framed_inhibitOne))
  | push v u h e ha hs =>
    subst e
    exact (framed_push8 h ha hs).trans (framed_advance 1)
  | pop d v u h e hd hs =>
    subst e
    exact (framed_pop8 h hs).trans ((framed_setReg (.inl hd) v).trans (framed_advance 1))
  | skipIO a b e =>
    subst e
    exact (framed_deviceAfterRead _).trans (framed_setPc b)
  | modIO a v e ha =>
    subst e
    obtain ⟨h1, h2⟩ := ioAddr5_bounds s.cfg a
    exact (framed_deviceAfterRead _).trans ((framed_deviceWrite ha h1 h2 v).trans (framed_advance 1))
  | lpmInc d v e hi =>
    subst e hi
    have hd : d ∈ destinations (.lpmZInc d) := by simp [destinations]
    have hz : Pointer.z.low ∈ destinations (.lpmZInc d) := by simp [destinations, Pointer.low]
    have hz' : Pointer.z.low + 1 ∈ destinations (.lpmZInc d) := by simp [destinations, Pointer.low]
    exact (framed_setReg (.inl hd) v).trans ((framed_setPtr hz hz' _).trans (framed_advance 1))
  | sleep b e hi =>
    subst e
    exact { framed_advance (s := s) 1 with sleeping := fun hne => absurd hi hne }
  | wdr e =>
    subst e
    exact framed_deviceWdr.trans (framed_advance 1)

theorem exec_framed (h : exec i s = .next t) : Framed i (storedAddrs i s) s t := (exec_did h).framed

end

/-- Settles O32, by `Framed` of every instruction. -/
theorem registerFrame : Obligations.RegisterFrame :=
  fun _ _ _ h => (exec_framed h).regs

/-- Settles O34, by `Framed` of every instruction, and `Keeps` for the configuration. -/
theorem systemFrame : Obligations.SystemFrame := by
  intro i s t h
  have hf := exec_framed h
  exact ⟨hf.sp, hf.sleeping, hf.pending, hf.dev, (exec_keeps h).cfg, hf.env, hf.powerUp, hf.cycles⟩

end Sys2Proof.Machine
end

section
/-!
PROOFS (10_state.md, 20_memory.md R52, R53). SREG as a byte, the data-space map as the relations `DataRead` and
`DataWrite`, PUSH and POP over them, and the jumps.
-/

namespace Sys2Proof.Machine

/-! ### SREG as a byte (10_state.md R27) -/

theorem Sreg.toByte_getLsbD (r : Sreg) (f : BitPos) : r.toByte.getLsbD f = r.get f := by
  fin_cases f <;> simp only [Sreg.toByte, BitVec.getLsbD_append] <;> simp [Sreg.get]

theorem Sreg.ofByte_get (v : Byte) (f : BitPos) : (Sreg.ofByte v).get f = v.getLsbD f := by
  fin_cases f <;> rfl

/-- SREG is its eight flags by number. -/
theorem Sreg.ext_get {r r' : Sreg} (h : ∀ f, r.get f = r'.get f) : r = r' := by
  cases r
  cases r'
  simp only [Sreg.mk.injEq]
  exact ⟨h 0, h 1, h 2, h 3, h 4, h 5, h 6, h 7⟩

theorem Sreg.ofByte_toByte (r : Sreg) : Sreg.ofByte r.toByte = r :=
  Sreg.ext_get fun f => (Sreg.ofByte_get r.toByte f).trans (r.toByte_getLsbD f)

/-- Settles O26, flag by flag. -/
theorem sregAsByte : Obligations.SregAsByte :=
  fun r v => ⟨⟨rfl, rfl, rfl, rfl, rfl, rfl, rfl, rfl⟩,
    fun f => ⟨r.toByte_getLsbD f, Sreg.ofByte_get v f⟩, r.ofByte_toByte⟩

/-! ### The bytes of SP (10_state.md R29) -/

theorem lowByte_toNat (w : Word) : (lowByte w).toNat = w.toNat % 256 := by
  simp [lowByte]

theorem highByte_toNat (w : Word) : (highByte w).toNat = w.toNat / 256 := by
  have := w.isLt
  simp only [highByte, BitVec.extractLsb'_toNat, Nat.shiftRight_eq_div_pow]
  omega

theorem ofBytes_toNat (hi lo : Byte) : (ofBytes hi lo).toNat = hi.toNat * 256 + lo.toNat := by
  rw [ofBytes, BitVec.toNat_append, ← Nat.shiftLeft_add_eq_or_of_lt lo.isLt, Nat.shiftLeft_eq]

theorem State.stackPtr_lt (s : State) : s.stackPtr.toNat < s.cfg.spBits.size := s.trimSp_lt s.sp

/-- The size of a stack pointer is a power of two from 2^12 to 2^16. -/
theorem spBits_size_cases (b : SpBits) : b = .twelve ∧ b.size = 0x1000 ∨ b = .sixteen ∧ b.size = 0x10000 := by
  cases b
  · exact .inl ⟨rfl, rfl⟩
  · exact .inr ⟨rfl, rfl⟩

/-- A write to SPL replaces the low byte; what it leaves has no bit above `SP_BITS`. -/
theorem setSp_low_toNat (s : State) (v : Byte) :
    (s.setSp (ofBytes (highByte s.stackPtr) v)).sp.toNat = s.stackPtr.toNat / 256 * 256 + v.toNat := by
  have hlt := s.stackPtr_lt
  have hv := v.isLt
  rw [State.setSp_sp, State.trimSp_toNat, ofBytes_toNat, highByte_toNat]
  obtain ⟨-, hsize⟩ | ⟨-, hsize⟩ := spBits_size_cases s.cfg.spBits <;> rw [hsize] at hlt ⊢ <;> omega

/-- A write to SPH replaces the high byte, cut to `SP_BITS`. -/
theorem setSp_high_toNat (s : State) (v : Byte) :
    (s.setSp (ofBytes v (lowByte s.stackPtr))).sp.toNat =
      (v.toNat * 256 + s.stackPtr.toNat % 256) % s.cfg.spBits.size := by
  rw [State.setSp_sp, State.trimSp_toNat, ofBytes_toNat, lowByte_toNat]

/-! ### The data-space map (20_memory.md R52, R53) -/

theorem toNat_ne_of_ne {a : Word} {n : Nat} (h : a ≠ BitVec.ofNat 16 n) : a.toNat ≠ n := by
  rintro rfl
  exact h (by simp)

/-- What a completed read answers is what the map says of its address. -/
theorem dataRead_of_memRead {a : Word} {s u : State} {v : Byte} (h : memRead a s = .ok (v, u)) : DataRead a s v u := by
  unfold memRead at h
  rw [DataRead]
  rcases dataCell_cases s.cfg a with
    ⟨hr, e⟩ | ⟨rfl, e⟩ | ⟨rfl, e⟩ | ⟨rfl, e⟩ | ⟨h1, h2, hl, hh, hs, e⟩ | ⟨h1, h2, e⟩ | ⟨h1, e⟩ <;>
    simp only [e, Except.ok.injEq, Prod.mk.injEq, reduceCtorEq] at h <;> obtain ⟨rfl, rfl⟩ := h
  · rw [dif_pos (Nat.le_of_lt_succ hr)]
    exact ⟨rfl, rfl⟩
  · exact ⟨lowByte_toNat _, rfl⟩
  · refine ⟨highByte_toNat _, fun htwelve => ?_, rfl⟩
    have hlt := s.stackPtr_lt
    rw [htwelve, SpBits.size] at hlt
    rw [highByte_toNat]
    omega
  · exact ⟨s.sreg.toByte_getLsbD, rfl⟩
  · rw [dif_neg (by omega), if_neg (toNat_ne_of_ne hl), if_neg (toNat_ne_of_ne hh),
      if_neg (toNat_ne_of_ne hs), if_pos h2]
    exact ⟨rfl, rfl⟩
  · rw [dif_neg (by omega), if_neg (by omega), if_neg (by omega), if_neg (by omega), if_neg (by omega), if_pos h2]
    exact ⟨rfl, rfl⟩

/-- What a completed write leaves is what the map says of its address. -/
theorem dataWrite_of_memWrite {a : Word} {v : Byte} {s u : State} (h : memWrite a v s = .ok u) : DataWrite a v s u := by
  unfold memWrite at h
  rw [DataWrite]
  rcases dataCell_cases s.cfg a with
    ⟨hr, e⟩ | ⟨rfl, e⟩ | ⟨rfl, e⟩ | ⟨rfl, e⟩ | ⟨h1, h2, hl, hh, hs, e⟩ | ⟨h1, h2, e⟩ | ⟨h1, e⟩ <;>
    simp only [e, Except.ok.injEq, reduceCtorEq] at h <;> subst h
  · rw [dif_pos (Nat.le_of_lt_succ hr)]
  · exact ⟨rfl, setSp_low_toNat s v⟩
  · exact ⟨rfl, setSp_high_toNat s v⟩
  · exact ⟨rfl, Sreg.ofByte_get v⟩
  · rw [dif_neg (by omega), if_neg (toNat_ne_of_ne hl), if_neg (toNat_ne_of_ne hh),
      if_neg (toNat_ne_of_ne hs), if_pos h2]
    exact ⟨rfl, deviceWrite_pending_cases s a v⟩
  · rw [dif_neg (by omega), if_neg (by omega), if_neg (by omega), if_neg (by omega), if_neg (by omega), if_pos h2]
    exact ⟨rfl, s.setSramByte_sramByte_self a v, fun _ hb => s.setSramByte_sramByte_ne v hb⟩

/-- Settles O27, address range by address range. -/
theorem memReadMap : Obligations.MemReadMap := by
  intro a s
  split
  · exact dataRead_of_memRead ‹_›
  · exact memRead_error ‹_›

/-- Settles O28, address range by address range. -/
theorem memWriteMap : Obligations.MemWriteMap := by
  intro a v s
  split
  · exact dataWrite_of_memWrite ‹_›
  · exact memWrite_error ‹_›

/-! ### Where a data-space access completes and where it faults -/

theorem dataCell_unmapped {c : Config} {a : Word} (h : 0x8FF < a.toNat) : dataCell c a = .unmapped := by
  have hne (b : Word) (hb : b.toNat ≤ 0x8FF) : a ≠ b := by
    rintro rfl
    omega
  rw [dataCell_eq, dif_neg (by omega), if_neg (hne _ (by decide)), if_neg (hne _ (by decide)),
    if_neg (hne _ (by decide)), if_neg (by omega), if_neg (by omega)]

theorem memRead_mapped {a : Word} (s : State) (h : a.toNat ≤ 0x8FF) :
    ∃ v u, memRead a s = .ok (v, u) ∧ DataRead a s v u := by
  cases hm : memRead a s with
  | ok p => exact ⟨p.1, p.2, rfl, dataRead_of_memRead hm⟩
  | error f => exact absurd (memRead_error hm).1 (Nat.not_lt.2 h)

theorem memRead_unmapped {a : Word} (s : State) (h : 0x8FF < a.toNat) :
    memRead a s = .error (.unmappedData a .read) := by
  rw [memRead, dataCell_unmapped h]

theorem memWrite_mapped {a : Word} (v : Byte) (s : State) (h : a.toNat ≤ 0x8FF) :
    ∃ u, memWrite a v s = .ok u ∧ DataWrite a v s u := by
  cases hm : memWrite a v s with
  | ok u => exact ⟨u, rfl, dataWrite_of_memWrite hm⟩
  | error f => exact absurd (memWrite_error hm).1 (Nat.not_lt.2 h)

theorem memWrite_unmapped {a : Word} (v : Byte) (s : State) (h : 0x8FF < a.toNat) :
    memWrite a v s = .error (.unmappedData a .write) := by
  rw [memWrite, dataCell_unmapped h]

theorem memRead_pc {a : Word} {s u : State} {v : Byte} (h : memRead a s = .ok (v, u)) : u.pc = s.pc := by
  obtain rfl | rfl := memRead_state h <;> rfl

theorem memWrite_pc {a : Word} {v : Byte} {s u : State} (h : memWrite a v s = .ok u) : u.pc = s.pc := by
  obtain ⟨_, rfl⟩ | ⟨-, rfl⟩ | ⟨-, rfl⟩ | ⟨-, rfl⟩ | ⟨-, -, rfl⟩ | ⟨-, -, rfl⟩ := memWrite_cases h <;> rfl

/-! ### PUSH and POP (42_data_transfer.md R211, R212) -/

/-- SP minus 1, modulo `2^SP_BITS`. -/
theorem trimSp_pred (s : State) :
    s.trimSp (s.stackPtr - 1) =
      BitVec.ofNat 16 ((s.stackPtr.toNat + s.cfg.spBits.size - 1) % s.cfg.spBits.size) := by
  have hlt := s.stackPtr_lt
  rw [State.trimSp]
  congr 1
  rw [BitVec.toNat_sub, show (1 : Word).toNat = 1 from rfl]
  obtain ⟨-, hsize⟩ | ⟨-, hsize⟩ := spBits_size_cases s.cfg.spBits <;> rw [hsize] at hlt ⊢ <;> omega

/-- SP plus 1, modulo `2^SP_BITS`. -/
theorem trimSp_succ (s : State) : s.trimSp (s.stackPtr + 1) = s.popAddr := by
  have hlt := s.stackPtr_lt
  rw [State.trimSp, State.popAddr]
  congr 1
  rw [BitVec.toNat_add, show (1 : Word).toNat = 1 from rfl]
  obtain ⟨-, hsize⟩ | ⟨-, hsize⟩ := spBits_size_cases s.cfg.spBits <;> rw [hsize] at hlt ⊢ <;> omega

theorem pop8_eq_popAddr (s : State) : pop8 s = memRead s.popAddr { s with sp := s.popAddr } := by
  rw [pop8_eq, State.setSp, trimSp_succ]

theorem push8_mapped (v : Byte) (s : State) (h : s.stackPtr.toNat ≤ 0x8FF) : ∃ u, push8 v s = .ok u ∧ Pushed v s u := by
  obtain ⟨w, hw, hd⟩ := memWrite_mapped v s h
  exact ⟨w.setSp (w.stackPtr - 1), by rw [push8, hw], w, hd, by rw [State.setSp, trimSp_pred]⟩

theorem push8_unmapped (v : Byte) (s : State) (h : 0x8FF < s.stackPtr.toNat) :
    push8 v s = .error (.unmappedData s.stackPtr .write) := by
  rw [push8, memWrite_unmapped v s h]

theorem pop8_mapped (s : State) (h : s.popAddr.toNat ≤ 0x8FF) : ∃ v u, pop8 s = .ok (v, u) ∧ Popped s v u := by
  rw [pop8_eq_popAddr]
  exact memRead_mapped _ h

theorem pop8_unmapped (s : State) (h : 0x8FF < s.popAddr.toNat) :
    pop8 s = .error (.unmappedData s.popAddr .read) := by
  rw [pop8_eq_popAddr, memRead_unmapped _ h]

theorem push8_pc {v : Byte} {s u : State} (h : push8 v s = .ok u) : u.pc = s.pc := by
  obtain ⟨w, hw, rfl⟩ := push8_cases h
  rw [State.setSp_pc, memWrite_pc hw]

theorem pop8_pc {s u : State} {v : Byte} (h : pop8 s = .ok (v, u)) : u.pc = s.pc := by
  rw [pop8_eq] at h
  rw [memRead_pc h, State.setSp_pc]

theorem exec_push (r : Reg) (s : State) : exec (.push r) s = execPush r s := rfl

theorem exec_pop (d : Reg) (s : State) : exec (.pop d) s = execPop d s := rfl

/-- Settles O57: where the accessed address is mapped the relation holds of what the operation answers, and else the
operation answers the fault. -/
theorem pushPopResult : Obligations.PushPopResult := by
  intro r d s
  rw [exec_push, execPush, exec_pop, execPop]
  constructor
  · split
    · obtain ⟨u, hu, hpushed⟩ := push8_mapped (s.reg r) s ‹_›
      exact ⟨u, hpushed, by simp only [hu, State.advance, push8_pc hu]⟩
    · rw [push8_unmapped _ s (Nat.not_le.1 ‹_›)]
  · split
    · obtain ⟨v, u, hu, hpopped⟩ := pop8_mapped s ‹_›
      exact ⟨v, u, hpopped, by simp only [hu, State.advance, State.setReg_pc, pop8_pc hu]⟩
    · rw [pop8_unmapped s (Nat.not_le.1 ‹_›)]

/-! ### Jumps (41_branch.md R165 to R167) -/

theorem setPc_regFrame (s : State) (a : ProgAddr) : State.RegFrame [] s (s.setPc a) where
  regs _ _ := rfl
  sp := rfl
  memory := ⟨fun _ => rfl, fun _ => rfl⟩
  hidden := ⟨rfl, rfl, rfl, rfl, rfl, rfl, rfl, rfl⟩

/-- An instruction that only sets the pc is a jump to any number that the new pc is modulo 2^14. -/
theorem isJump_of_setPc {i : Instr} {s : State} {a : ProgAddr} {target : Int} (h : exec i s = .next (s.setPc a))
    (ha : (a.toNat : Int) = target % 16384) : IsJump i s target :=
  ⟨s.setPc a, h, ha, rfl, setPc_regFrame s a⟩

/-- A relative target: `pc + 1 + k` with `k` signed, modulo 2^14 (10_state.md R25; 41_branch.md R164). -/
theorem relative_target_toNat {w : Nat} (pc : ProgAddr) (k : BitVec w) :
    ((pc + (1 + k.signExtend 14)).toNat : Int) = (pc.toNat + 1 + k.toInt) % 16384 := by
  have hk : ((k.signExtend 14).toNat : Int) = k.toInt % 16384 := by
    rw [BitVec.signExtend, BitVec.toNat_ofInt]
    exact Int.toNat_of_nonneg (Int.emod_nonneg _ (by decide))
  rw [BitVec.toNat_add, BitVec.toNat_add, show (1 : ProgAddr).toNat = 1 from rfl]
  omega

/-- Settles O46, target by target. -/
theorem jumpResult : Obligations.JumpResult := by
  refine fun k k22 s => ⟨isJump_of_setPc rfl ?_, isJump_of_setPc rfl ?_, isJump_of_setPc rfl ?_⟩
  · exact relative_target_toNat s.pc k
  · rw [BitVec.toNat_setWidth, Int.natCast_emod]
    rfl
  · rw [BitVec.toNat_setWidth, Int.natCast_emod]
    rfl

end Sys2Proof.Machine
end

section
/-!
PROOFS (20_memory.md). Memory under the instructions: which SRAM bytes an instruction can change, the loads and stores
over the data-space map, the loads from program memory, and the read-modify-write of a port bit.
-/

namespace Sys2Proof.Machine

/-! ### The SRAM bytes an operation can change (20_memory.md R53) -/

/-- From `s` to `t`, every SRAM byte outside the addresses `A` reads as before. -/
def SramKept (A : List Word) (s t : State) : Prop := ∀ a, a ∉ A → t.sramByte a = s.sramByte a

section
variable {A : List Word} {s t u : State}

theorem SramKept.trans (h : SramKept A s t) (h' : SramKept A t u) : SramKept A s u :=
  fun a ha => (h' a ha).trans (h a ha)

/-- An SRAM byte depends on nothing but the memory and the power-up (log 2). -/
theorem SramKept.of_same (hsram : t.sram = s.sram) (hpowerUp : t.powerUp = s.powerUp) : SramKept A s t :=
  fun a _ => by rw [State.sramByte, State.sramByte, hsram, hpowerUp]

theorem sramKept_setSramByte {a : Word} (ha : a ∈ A) (v : Byte) : SramKept A s (s.setSramByte a v) := by
  refine fun b hb => s.setSramByte_sramByte_ne v ?_
  rintro rfl
  exact hb ha

theorem sramKept_memRead {a : Word} {v : Byte} (h : memRead a s = .ok (v, u)) : SramKept A s u := by
  obtain rfl | rfl := memRead_state h <;> exact .of_same rfl rfl

theorem sramKept_memWrite {a : Word} {v : Byte} (h : memWrite a v s = .ok u) (ha : a ∈ A) : SramKept A s u := by
  obtain ⟨_, rfl⟩ | ⟨-, rfl⟩ | ⟨-, rfl⟩ | ⟨-, rfl⟩ | ⟨-, -, rfl⟩ | ⟨-, -, rfl⟩ := memWrite_cases h
  · exact .of_same rfl rfl
  · exact .of_same rfl rfl
  · exact .of_same rfl rfl
  · exact .of_same rfl rfl
  · exact .of_same rfl rfl
  · exact sramKept_setSramByte ha v

theorem sramKept_push8 {v : Byte} (h : push8 v s = .ok u) (ha : s.stackPtr ∈ A) : SramKept A s u := by
  obtain ⟨w, hw, rfl⟩ := push8_cases h
  exact (sramKept_memWrite hw ha).trans (.of_same rfl rfl)

theorem sramKept_pop8 {v : Byte} (h : pop8 s = .ok (v, u)) : SramKept A s u := by
  rw [pop8_eq] at h
  exact (SramKept.of_same rfl rfl : SramKept A s (s.setSp (s.stackPtr + 1))).trans (sramKept_memRead h)

theorem sramKept_popPC {a : ProgAddr} (h : popPC s = .ok (a, u)) : SramKept A s u := by
  obtain ⟨_, w, _, h1, h2, -⟩ := popPC_cases h
  exact (sramKept_pop8 h1).trans (sramKept_pop8 h2)

theorem Did.sramKept {i : Instr} (hdid : Did i s t) : SramKept (storedAddrs i s) s t := by
  cases hdid with
  | endReg d v r e | endPair d v r e | endFlags r e | writeFlag f x e | pc a e | skipIO a b e | modIO a v e
  | lpmInc d v e | sleep b e | wdr e =>
    subst e
    exact .of_same rfl rfl
  | load d a n v u h e | loadInc p d v u h e =>
    subst e
    exact (sramKept_memRead h).trans (.of_same rfl rfl)
  | loadDec p d v u h e =>
    subst e
    have hptr : SramKept (storedAddrs i s) s (s.setPtr p (s.ptr p - 1)) := .of_same rfl rfl
    exact hptr.trans ((sramKept_memRead h).trans (.of_same rfl rfl))
  | store a v n u h e ha | storeInc p v u h e ha =>
    subst e
    exact (sramKept_memWrite h ha).trans (.of_same rfl rfl)
  | storeDec p v u h e ha =>
    subst e
    have hptr : SramKept (storedAddrs i s) s (s.setPtr p (s.ptr p - 1)) := .of_same rfl rfl
    exact hptr.trans ((sramKept_memWrite h ha).trans (.of_same rfl rfl))
  | call r a u w h1 h2 e ha =>
    subst e
    have hfst : s.stackPtr ∈ storedAddrs i s := by simp [ha]
    have hsnd : u.stackPtr ∈ storedAddrs i s := by simp [ha]
    exact (sramKept_push8 h1 hfst).trans ((sramKept_push8 h2 hsnd).trans (.of_same rfl rfl))
  | ret a u h e | reti a u h e =>
    subst e
    exact (sramKept_popPC h).trans (.of_same rfl rfl)
  | push v u h e ha =>
    subst e
    exact (sramKept_push8 h ha).trans (.of_same rfl rfl)
  | pop d v u h e =>
    subst e
    exact (sramKept_pop8 h).trans (.of_same rfl rfl)

end

/-- Settles O33, by `SramKept` of everything an instruction can do, and `Keeps` for program memory. -/
theorem memoryFrame : Obligations.MemoryFrame :=
  fun _ _ _ h => ⟨(exec_did h).sramKept, (exec_keeps h).progWord⟩

/-! ### Loads and stores without pointer update (42_data_transfer.md R210) -/

/-- A displaced address is modulo 2^16 (20_memory.md R71). -/
theorem displaced_eq (s : State) (p : Pointer) (q : BitVec 6) :
    s.displaced p q = BitVec.ofNat 16 ((s.ptr p).toNat + q.toNat) := by
  rw [State.displaced, BitVec.ofNat_add, BitVec.ofNat_toNat, BitVec.ofNat_toNat, BitVec.setWidth_eq]

/-- I/O addresses start at data address 0x20 (20_memory.md R54). -/
theorem ioAddr_eq (c : Config) (a : BitVec 6) : ioAddr c a = BitVec.ofNat 16 (0x20 + a.toNat) := rfl

theorem ioAddr5_eq (c : Config) (a : BitVec 5) : ioAddr5 c a = BitVec.ofNat 16 (0x20 + a.toNat) := rfl

theorem isLoad_of_exec {i : Instr} {s : State} {d : Reg} {a : Word} {n : ProgAddr} (h : exec i s = load d a n s) :
    IsLoad i s d a n := by
  rw [IsLoad, h, load]
  split
  · obtain ⟨v, u, hread, hmap⟩ := memRead_mapped s ‹_›
    exact ⟨v, u, hmap, by simp only [hread, State.advance, State.setReg_pc, memRead_pc hread]⟩
  · rw [memRead_unmapped s (Nat.not_le.1 ‹_›)]

theorem isStore_of_exec {i : Instr} {s : State} {a : Word} {v : Byte} {n : ProgAddr} (h : exec i s = store a v n s) :
    IsStore i s a v n := by
  rw [IsStore, h, store]
  split
  · obtain ⟨u, hwrite, hmap⟩ := memWrite_mapped v s ‹_›
    exact ⟨u, hmap, by simp only [hwrite, State.advance, memWrite_pc hwrite]⟩
  · rw [memWrite_unmapped v s (Nat.not_le.1 ‹_›)]

/-- Settles O51: each is the shared `load`, at its own address. -/
theorem loadResult : Obligations.LoadResult := by
  intro d q k a s
  rw [← displaced_eq, ← displaced_eq, ← ioAddr_eq s.cfg]
  exact ⟨isLoad_of_exec rfl, isLoad_of_exec rfl, isLoad_of_exec rfl, isLoad_of_exec rfl, isLoad_of_exec rfl,
    isLoad_of_exec rfl, isLoad_of_exec rfl⟩

/-- Settles O53: each is the shared `store`, at its own address. -/
theorem storeResult : Obligations.StoreResult := by
  intro r q k a s
  rw [← displaced_eq, ← displaced_eq, ← ioAddr_eq s.cfg]
  exact ⟨isStore_of_exec rfl, isStore_of_exec rfl, isStore_of_exec rfl, isStore_of_exec rfl, isStore_of_exec rfl,
    isStore_of_exec rfl, isStore_of_exec rfl⟩

/-! ### Program memory as bytes (20_memory.md R59) -/

/-- A byte address is a word address and the choice of a half. -/
theorem byteAddr_eq (z : Word) :
    (z.setWidth 15 : BitVec 15) = BitVec.ofNat 14 (z.toNat / 2) ++ BitVec.ofNat 1 (z.toNat % 2) := by
  refine BitVec.eq_of_toNat_eq ?_
  rw [State.byteAddr_toNat, BitVec.toNat_setWidth, BitVec.toNat_ofNat, BitVec.toNat_ofNat]
  omega

/-- The byte of program memory at `z` is half of the word at `z / 2`: the low byte where `z` is even. -/
theorem progByte_toNat (s : State) (z : Word) :
    (s.progByte (z.setWidth 15)).toNat =
      if z.toNat % 2 = 0 then (s.progWord (BitVec.ofNat 14 (z.toNat / 2))).toNat % 256
      else (s.progWord (BitVec.ofNat 14 (z.toNat / 2))).toNat / 256 := by
  rw [byteAddr_eq, State.progWord, ofBytes_toNat]
  have hlow := (s.progByte (BitVec.ofNat 14 (z.toNat / 2) ++ 0#1)).isLt
  obtain heven | hodd := Nat.mod_two_eq_zero_or_one z.toNat
  · rw [heven, if_pos rfl]
    omega
  · rw [hodd, if_neg Nat.one_ne_zero]
    omega

theorem progRead_mapped {z : Word} (s : State) (h : z.toNat ≤ 0x7FFF) :
    progRead z s = .ok (s.progByte (z.setWidth 15)) := by
  rw [progRead, Config.hw_flashEnd, if_pos (by omega)]

theorem progRead_unmapped {z : Word} (s : State) (h : 0x7FFF < z.toNat) :
    progRead z s = .error (.unmappedProgram z) := by
  rw [progRead, Config.hw_flashEnd, if_neg (by omega)]

/-! ### The loads from program memory (42_data_transfer.md R241 to R243) -/

theorem Pointer.owns_iff (p : Pointer) (r : Reg) : p.owns r = true ↔ r = p.low ∨ r = p.low + 1 := by
  simp [Pointer.owns]

theorem Pointer.owns_z_iff (r : Reg) : Pointer.z.owns r = true ↔ r = 30 ∨ r = 31 := Pointer.owns_iff .z r

theorem State.setPtr_reg_ne (s : State) {p : Pointer} {r : Reg} (v : Word) (h : r ≠ p.low) (h' : r ≠ p.low + 1) :
    (s.setPtr p v).reg r = s.reg r := s.setPair_reg_ne v h h'

theorem State.setPtr_ptr_self (s : State) (p : Pointer) (v : Word) : (s.setPtr p v).ptr p = v :=
  s.setPair_pair_self p.low v

/-- A state that differs in registers, pc and flags only is framed by the registers that differ. -/
theorem regFrame_of_regs (s : State) {ds : List Reg} {regs : Vector Byte 32} {pc : ProgAddr} {sreg : Sreg}
    (h : ∀ r : Reg, r ∉ ds → regs[r.val] = s.reg r) :
    State.RegFrame ds s { s with regs := regs, pc := pc, sreg := sreg } where
  regs := h
  sp := rfl
  memory := ⟨fun _ => rfl, fun _ => rfl⟩
  hidden := ⟨rfl, rfl, rfl, rfl, rfl, rfl, rfl, rfl⟩

theorem endReg_regFrame (s : State) (d : Reg) (v : Byte) (r : Sreg) :
    State.RegFrame [d] s (((s.setReg d v).setSreg r).advance 1) :=
  regFrame_of_regs s fun _ hr => s.setReg_reg_ne v (mt List.mem_singleton.2 hr)

/-- An instruction that ends by writing one register and no flag is a move. -/
theorem isMove_of_endReg {i : Instr} {s : State} {d : Reg} {v : Byte} {n : Nat}
    (h : exec i s = endReg d v s.sreg s) (hv : v.toNat = n) : IsMove i s d n :=
  ⟨_, h, by rwa [State.advance_reg, State.setSreg_reg, State.setReg_reg_self], rfl, rfl, endReg_regFrame s d v s.sreg⟩

theorem loadProgram_mapped (d : Reg) {s : State} (h : (s.ptr .z).toNat ≤ 0x7FFF) :
    loadProgram d s = endReg d (s.progByte ((s.ptr .z).setWidth 15)) s.sreg s := by
  rw [loadProgram, progRead_mapped s h]

theorem loadProgram_unmapped (d : Reg) {s : State} (h : 0x7FFF < (s.ptr .z).toNat) :
    loadProgram d s = .fault (.unmappedProgram (s.ptr .z)) := by
  rw [loadProgram, progRead_unmapped s h]

theorem execLpmZInc_owned {d : Reg} (s : State) (h : d = 30 ∨ d = 31) :
    execLpmZInc d s = .fault (.undefinedOperand "LPM Rd,Z+" d) := if_pos ((Pointer.owns_z_iff d).2 h)

theorem execLpmZInc_mapped {d : Reg} {s : State} (hd : ¬(d = 30 ∨ d = 31)) (h : (s.ptr .z).toNat ≤ 0x7FFF) :
    execLpmZInc d s =
      .next (((s.setReg d (s.progByte ((s.ptr .z).setWidth 15))).setPtr .z (s.ptr .z + 1)).advance 1) := by
  rw [execLpmZInc, if_neg (mt (Pointer.owns_z_iff d).1 hd), progRead_mapped s h]

theorem execLpmZInc_unmapped {d : Reg} {s : State} (hd : ¬(d = 30 ∨ d = 31)) (h : 0x7FFF < (s.ptr .z).toNat) :
    execLpmZInc d s = .fault (.unmappedProgram (s.ptr .z)) := by
  rw [execLpmZInc, if_neg (mt (Pointer.owns_z_iff d).1 hd), progRead_unmapped s h]

/-- Pointer Z written back after a register: the two registers of Z and that one may differ. -/
theorem setReg_setPtr_regFrame (s : State) (d : Reg) (v : Byte) (z : Word) :
    State.RegFrame [d, 30, 31] s (((s.setReg d v).setPtr .z z).advance 1) := by
  refine regFrame_of_regs s fun r hr => ?_
  simp only [List.mem_cons, List.not_mem_nil, or_false, not_or] at hr
  obtain ⟨hd, hlow, hhigh⟩ := hr
  exact ((s.setReg d v).setPtr_reg_ne (p := .z) z hlow hhigh).trans (s.setReg_reg_ne v hd)

/-- Settles O55: a byte of program memory is half of a word, and each form loads that byte or stops. -/
theorem programLoadResult : Obligations.ProgramLoadResult := by
  intro d s
  refine ⟨fun hz => ⟨?_, ?_, fun h30 h31 => ?_⟩, fun hz => ⟨?_, ?_, fun h30 h31 => ?_⟩, fun hd => ?_⟩
  · exact isMove_of_endReg (loadProgram_mapped 0 hz) (progByte_toNat s _)
  · exact isMove_of_endReg (loadProgram_mapped d hz) (progByte_toNat s _)
  · refine ⟨_, execLpmZInc_mapped (not_or.2 ⟨h30, h31⟩) hz, ?_, ?_, rfl, rfl, setReg_setPtr_regFrame s d _ _⟩
    · rw [State.advance_reg, State.setPtr_reg_ne (p := .z) _ _ h30 h31, State.setReg_reg_self]
      exact progByte_toNat s _
    · rw [State.ptr, State.advance_pair, ← State.ptr, State.setPtr_ptr_self]
      exact BitVec.toNat_add _ _
  · exact loadProgram_unmapped 0 hz
  · exact loadProgram_unmapped d hz
  · exact execLpmZInc_unmapped (not_or.2 ⟨h30, h31⟩) hz
  · exact execLpmZInc_owned s hd

/-! ### SBI and CBI (43_bit_and_bit_test.md R262, R263) -/

theorem bitMask_getLsbD (b : BitPos) (j : Nat) : (bitMask b).getLsbD j = decide (j = b.val) := by
  have hb := b.isLt
  rw [bitMask, BitVec.getLsbD_shiftLeft, BitVec.getLsbD_one, Bool.eq_iff_iff]
  simp only [Bool.and_eq_true, Bool.not_eq_true', decide_eq_true_eq, decide_eq_false_iff_not]
  omega

theorem setBit_getLsbD (v : Byte) (b : BitPos) (j : Nat) :
    (v ||| bitMask b).getLsbD j = if j = b.val then true else v.getLsbD j := by
  rw [BitVec.getLsbD_or, bitMask_getLsbD]
  split <;> simp [*]

theorem clearBit_getLsbD (v : Byte) (b : BitPos) {j : Nat} (hj : j < 8) :
    (v &&& ~~~bitMask b).getLsbD j = if j = b.val then false else v.getLsbD j := by
  rw [BitVec.getLsbD_and, BitVec.getLsbD_not, bitMask_getLsbD]
  split <;> simp [*]

/-- An I/O byte's read-modify-write is a device read, then a write over the data-space map (20_memory.md R54, R56). -/
theorem modifyIO_dataWrite (a : BitVec 5) (f : Byte → Byte) (s : State) :
    ∃ w, DataWrite (ioAddr5 s.cfg a) (f (s.deviceByte (ioAddr5 s.cfg a))) (s.deviceAfterRead (ioAddr5 s.cfg a)) w ∧
      modifyIO a f s = .next (w.setPc (s.pc + 1)) :=
  ⟨_, dataWrite_of_memWrite (by rw [memWrite, State.deviceAfterRead_cfg, dataCell_ioAddr5]), modifyIO_eq a f s⟩

/-- Settles O58: SBI and CBI are that read-modify-write, each with its own change of the byte. -/
theorem portBitResult : Obligations.PortBitResult := by
  intro a b s
  rw [← ioAddr5_eq s.cfg a]
  intro port x
  cases x with
  | false =>
    obtain ⟨w, hwrite, hexec⟩ := modifyIO_dataWrite a (fun v => v &&& ~~~bitMask b) s
    exact ⟨_, w, fun j hj => clearBit_getLsbD _ b hj, hwrite, hexec⟩
  | true =>
    obtain ⟨w, hwrite, hexec⟩ := modifyIO_dataWrite a (fun v => v ||| bitMask b) s
    exact ⟨_, w, fun j _ => setBit_getLsbD _ b j, hwrite, hexec⟩

end Sys2Proof.Machine
end

section
/-!
PROOFS (30_encoding.md R100, R102, R106). The encoding table as sets of first words: a mask and a pattern describe the
words that agree with the pattern at every bit of the mask. Two such sets are disjoint where their patterns differ at a
bit of both masks, and whether some of them together hold every word is decided bit by bit.
-/

namespace Sys2Proof

/-! ### Sets of words -/

/-- The words `w` with `w &&& mask = pattern` (30_encoding.md R102). -/
structure WordSet where
  mask : Word
  pattern : Word

namespace WordSet

abbrev Contains (c : WordSet) (w : Word) : Prop := w &&& c.mask = c.pattern

/-- The two patterns differ at a bit of both masks. -/
abbrev Clash (c e : WordSet) : Prop := c.pattern &&& e.mask ≠ e.pattern &&& c.mask

theorem Clash.not_contains {c e : WordSet} (h : c.Clash e) {w : Word} (hc : c.Contains w) : ¬ e.Contains w := by
  intro he
  refine h ?_
  rw [← hc, ← he, BitVec.and_assoc, BitVec.and_assoc, BitVec.and_comm c.mask]

/-- A word with bit `n` equal to `b` meets what the set asks of that bit. -/
def allows (n : Nat) (b : Bool) (c : WordSet) : Bool := (b && c.mask.getLsbD n) == c.pattern.getLsbD n

/-- Whether every choice of the `n` lowest bits is that of some set: at once if a set asks nothing of them, otherwise by
the two values of bit `n - 1`, each with the sets that allow it. -/
def coversLow : Nat → List WordSet → Bool
  | 0, l => !l.isEmpty
  | n + 1, l =>
    (l.any fun c => c.mask.setWidth (n + 1) == 0 && c.pattern.setWidth (n + 1) == 0) ||
      (coversLow n (l.filter (allows n false)) && coversLow n (l.filter (allows n true)))

theorem allows_of_setWidth_eq_zero {c : WordSet} {m j : Nat} (hj : j < m) (hm : c.mask.setWidth m = 0)
    (hp : c.pattern.setWidth m = 0) (b : Bool) : c.allows j b = true := by
  have hmask : c.mask.getLsbD j = false := by simpa [hj] using congrArg (·.getLsbD j) hm
  have hpattern : c.pattern.getLsbD j = false := by simpa [hj] using congrArg (·.getLsbD j) hp
  rw [allows, hmask, hpattern, Bool.and_false]
  rfl

/-- Sets that cover the `n` lowest bits have one that allows those of a given word. -/
theorem exists_allows_of_coversLow (w : Word) : ∀ {n : Nat} {l : List WordSet}, coversLow n l = true →
    ∃ c ∈ l, ∀ j < n, c.allows j (w.getLsbD j) = true
  | 0, l, h => by
    obtain ⟨c, hc⟩ := List.exists_mem_of_ne_nil l (by simpa [coversLow] using h)
    exact ⟨c, hc, fun _ hj => absurd hj (Nat.not_lt_zero _)⟩
  | n + 1, l, h => by
    rw [coversLow, Bool.or_eq_true, List.any_eq_true, Bool.and_eq_true] at h
    obtain ⟨c, hc, hzero⟩ | ⟨hfalse, htrue⟩ := h
    · rw [Bool.and_eq_true, beq_iff_eq, beq_iff_eq] at hzero
      obtain ⟨hmask, hpattern⟩ := hzero
      exact ⟨c, hc, fun j hj => allows_of_setWidth_eq_zero hj hmask hpattern _⟩
    · have hbit : coversLow n (l.filter (allows n (w.getLsbD n))) = true := by
        cases w.getLsbD n with
        | false => exact hfalse
        | true => exact htrue
      obtain ⟨c, hc, hlow⟩ := exists_allows_of_coversLow w hbit
      obtain ⟨hmem, hn⟩ := List.mem_filter.1 hc
      refine ⟨c, hmem, fun j hj => ?_⟩
      obtain hj | rfl := Nat.lt_succ_iff_lt_or_eq.1 hj
      · exact hlow j hj
      · exact hn

theorem contains_of_allows {c : WordSet} {w : Word} (h : ∀ j < 16, c.allows j (w.getLsbD j) = true) : c.Contains w := by
  refine BitVec.eq_of_getLsbD_eq fun j hj => ?_
  rw [BitVec.getLsbD_and]
  exact beq_iff_eq.1 (h j hj)

/-- Sets that cover all sixteen bits hold every word. -/
theorem exists_contains_of_coversLow {l : List WordSet} (h : coversLow 16 l = true) (w : Word) :
    ∃ c ∈ l, c.Contains w :=
  let ⟨c, hc, hlow⟩ := exists_allows_of_coversLow w h
  ⟨c, hc, contains_of_allows hlow⟩

end WordSet

/-! ### The rows -/

/-- The words of a row (30_encoding.md R102). -/
abbrev Row.words (row : Row) : WordSet := ⟨row.mask, row.pattern⟩

theorem rows_pairwise_clash : Decode.rows.Pairwise fun row row' => row.words.Clash row'.words := by decide

/-- Of rows that clash pairwise, a word belongs to at most one. -/
theorem length_filter_contains_le {l : List Row} (h : l.Pairwise fun row row' => row.words.Clash row'.words)
    (w : Word) :
    (l.filter fun row => w &&& row.mask == row.pattern).length ≤ 1 := by
  induction h with
  | nil => exact Nat.zero_le 1
  | @cons row l hclash _ ih =>
    by_cases hrow : row.words.Contains w
    · have hrest : (l.filter fun row => w &&& row.mask == row.pattern) = [] :=
        List.filter_eq_nil_iff.2 fun row' hmem => mt beq_iff_eq.1 ((hclash row' hmem).not_contains hrow)
      rw [List.filter_cons, hrest]
      split <;> simp
    · rwa [List.filter_cons, if_neg (mt beq_iff_eq.1 hrow)]

/-- Settles O3: any two rows clash. -/
theorem rowsDisjoint : Obligations.RowsDisjoint :=
  ⟨rfl, length_filter_contains_le rows_pairwise_clash⟩

theorem mem_rows_of_findRow {w : Word} {row : Row} (h : findRow w = some row) :
    row ∈ Decode.rows ∧ row.words.Contains w := by
  unfold findRow at h
  exact ⟨List.mem_of_find?_eq_some h, by simpa using List.find?_some h⟩

/-- The decoder finds the one row of a word, wherever it stands in the table. -/
theorem findRow_eq_some_iff {w : Word} {row : Row} :
    findRow w = some row ↔ row ∈ Decode.rows ∧ row.words.Contains w := by
  refine ⟨mem_rows_of_findRow, fun ⟨hmem, hw⟩ => ?_⟩
  obtain ⟨row', hrow'⟩ : ∃ row', findRow w = some row' :=
    Option.isSome_iff_exists.1 (List.find?_isSome.2 ⟨row, hmem, beq_iff_eq.2 hw⟩)
  obtain ⟨hmem', hw'⟩ := mem_rows_of_findRow hrow'
  obtain rfl : row' = row := by
    by_contra hne
    have hsymm : Std.Symm fun row row' : Row => row.words.Clash row'.words := ⟨fun _ _ => Ne.symm⟩
    exact (rows_pairwise_clash.forall hmem' hmem hne).not_contains hw' hw
  exact hrow'

theorem findRow_eq_none_iff {w : Word} : findRow w = none ↔ ∀ row ∈ Decode.rows, ¬ row.words.Contains w := by
  simp [findRow, List.find?_eq_none]

theorem decodeWords_eq_some_iff {w w1 : Word} {i : Instr} :
    decodeWords w w1 = some i ↔ ∃ row ∈ Decode.rows, row.words.Contains w ∧ row.build w w1 = i := by
  simp only [decodeWords, Option.map_eq_some_iff, findRow_eq_some_iff, and_assoc]

theorem decodeWords_eq_none_iff {w w1 : Word} : decodeWords w w1 = none ↔ findRow w = none :=
  Option.map_eq_none_iff

/-- Whether a word of a set is in another, where that does not depend on the word. -/
theorem WordSet.beq_of_contains {c e : WordSet} {w : Word} (hw : c.Contains w)
    (h : c.Clash e ∨ e.mask &&& c.mask = e.mask) :
    (w &&& e.mask == e.pattern) = (c.pattern &&& e.mask == e.pattern) := by
  rw [Bool.eq_iff_iff, beq_iff_eq, beq_iff_eq]
  obtain hclash | hcover := h
  · refine iff_of_false (hclash.not_contains hw) fun heq => hclash ?_
    have hself : c.pattern &&& c.mask = c.pattern := by rw [← hw, BitVec.and_assoc, BitVec.and_self]
    rw [← heq, BitVec.and_assoc, BitVec.and_comm e.mask, ← BitVec.and_assoc, hself]
  · rw [← hw, BitVec.and_assoc, BitVec.and_comm c.mask, hcover]

theorem rows_clash_or_cover_two_word : ∀ row ∈ Decode.rows,
    (row.words.Clash ⟨0xFC0F, 0x9000⟩ ∨ 0xFC0F &&& row.mask = 0xFC0F) ∧
    (row.words.Clash ⟨0xFE0C, 0x940C⟩ ∨ 0xFE0C &&& row.mask = 0xFE0C) := by decide

/-- All words of a row announce the same number of words (30_encoding.md R81). -/
theorem isTwoWord_of_contains {w : Word} {row : Row} (hrow : row ∈ Decode.rows) (hw : row.words.Contains w) :
    isTwoWord w = isTwoWord row.pattern := by
  obtain ⟨h₁, h₂⟩ := rows_clash_or_cover_two_word row hrow
  exact congrArg₂ or (WordSet.beq_of_contains hw h₁) (WordSet.beq_of_contains hw h₂)

/-! ### The reserved words (30_encoding.md R106) -/

/-- For each of the values `l` of the bits `m₂`, the words with that value there and `p` in the bits `m₁`. -/
def spread (m₁ p m₂ : Word) (l : List Word) : List (WordSet × List Word) :=
  l.map fun x => (⟨m₁ ||| m₂, p ||| x⟩, [])

/-- The eight groups of reserved words, each as the sets that make it up and the words in them that are not reserved. -/
def reservedSets : List (WordSet × List Word) :=
  [(⟨0xFF00, 0x0000⟩, [0x0000])] ++
  spread 0xFE00 0x9000 0x000F [0x3, 0x6, 0x7, 0x8, 0xB] ++
  spread 0xFE00 0x9200 0x000F [0x3, 0x4, 0x5, 0x6, 0x7, 0x8, 0xB] ++
  [(⟨0xFE0F, 0x9404⟩, [])] ++
  spread 0xFF0F 0x9508 0x00F0 [0x20, 0x30, 0x40, 0x50, 0x60, 0x70, 0xB0, 0xD0, 0xF0] ++
  [(⟨0xFE0F, 0x9409⟩, [0x9409, 0x9509])] ++
  [(⟨0xFE0F, 0x940B⟩, [])] ++
  [(⟨0xF808, 0xF808⟩, [])]

/-- A row meets no reserved set, but for rows of one word that the set leaves out. -/
theorem reservedSets_clash : ∀ g ∈ reservedSets, ∀ row ∈ Decode.rows,
    g.1.Clash row.words ∨ row.mask = 0xFFFF ∧ row.pattern ∈ g.2 := by decide

theorem reservedSets_left_out : ∀ g ∈ reservedSets, (g.2.all fun w => (findRow w).isSome) = true := by decide

theorem rows_and_reservedSets_cover :
    WordSet.coversLow 16 (Decode.rows.map Row.words ++ reservedSets.map Prod.fst) = true := by decide

theorem findRow_eq_none_iff_reserved {w : Word} :
    findRow w = none ↔ ∃ g ∈ reservedSets, g.1.Contains w ∧ w ∉ g.2 := by
  constructor
  · intro h
    obtain ⟨c, hc, hw⟩ := WordSet.exists_contains_of_coversLow rows_and_reservedSets_cover w
    rw [List.mem_append, List.mem_map, List.mem_map] at hc
    obtain ⟨row, hrow, rfl⟩ | ⟨g, hg, rfl⟩ := hc
    · exact absurd hw (findRow_eq_none_iff.1 h row hrow)
    · refine ⟨g, hg, hw, fun hout => ?_⟩
      have hsome := List.all_eq_true.1 (reservedSets_left_out g hg) w hout
      rw [h] at hsome
      exact absurd hsome Bool.false_ne_true
  · rintro ⟨g, hg, hw, hout⟩
    refine findRow_eq_none_iff.2 fun row hrow hcontains => ?_
    obtain hclash | ⟨hmask, hpattern⟩ := reservedSets_clash g hg row hrow
    · exact hclash.not_contains hw hcontains
    · have hself : w = row.pattern := by
        rw [← show w &&& row.mask = row.pattern from hcontains, hmask]
        exact BitVec.and_allOnes.symm
      exact hout (hself ▸ hpattern)

/-- Two disjoint masks ask of a word what their union asks. -/
theorem and_or_eq_iff {w m₁ m₂ p x : Word} (hm : m₁ &&& m₂ = 0#16) (hp : p &&& m₁ = p) (hx : x &&& m₂ = x) :
    w &&& (m₁ ||| m₂) = p ||| x ↔ w &&& m₁ = p ∧ w &&& m₂ = x := by
  have hm' : m₂ &&& m₁ = 0#16 := (BitVec.and_comm m₂ m₁).trans hm
  have hp₂ : p &&& m₂ = 0#16 := by rw [← hp, BitVec.and_assoc, hm, BitVec.and_zero]
  have hx₁ : x &&& m₁ = 0#16 := by rw [← hx, BitVec.and_assoc, hm', BitVec.and_zero]
  constructor
  · intro h
    have h₁ := congrArg (· &&& m₁) h
    have h₂ := congrArg (· &&& m₂) h
    simp only [BitVec.and_or_distrib_left, BitVec.and_or_distrib_right, BitVec.and_assoc, BitVec.and_self,
      BitVec.and_zero, BitVec.or_zero, BitVec.zero_or, hm, hm', hp, hp₂, hx, hx₁] at h₁ h₂
    exact ⟨h₁, h₂⟩
  · rintro ⟨rfl, rfl⟩
    exact BitVec.and_or_distrib_left

theorem exists_mem_spread {w m₁ p m₂ : Word} {l : List Word} (hm : m₁ &&& m₂ = 0#16) (hp : p &&& m₁ = p)
    (hl : (l.all fun x => x &&& m₂ == x) = true) :
    (∃ g ∈ spread m₁ p m₂ l, g.1.Contains w ∧ w ∉ g.2) ↔ w &&& m₁ = p ∧ w &&& m₂ ∈ l := by
  have hl : ∀ x ∈ l, x &&& m₂ = x := fun x hx => beq_iff_eq.1 (List.all_eq_true.1 hl x hx)
  constructor
  · rintro ⟨g, hg, hw, -⟩
    obtain ⟨x, hx, rfl⟩ := List.mem_map.1 hg
    obtain ⟨h₁, rfl⟩ := (and_or_eq_iff hm hp (hl x hx)).1 hw
    exact ⟨h₁, hx⟩
  · intro ⟨h₁, h₂⟩
    exact ⟨_, List.mem_map_of_mem h₂, (and_or_eq_iff hm hp (hl _ h₂)).2 ⟨h₁, rfl⟩, List.not_mem_nil⟩

/-- Settles O4: the rows and the reserved sets cover all words, and no word is both of a row and reserved. -/
theorem reservedWords : Obligations.ReservedWords := by
  intro w w1
  rw [decodeWords_eq_none_iff, findRow_eq_none_iff_reserved]
  simp (disch := decide) only [reservedSets, WordSet.Contains, List.mem_append, or_and_right, exists_or, exists_eq_left,
    or_assoc, exists_mem_spread, List.mem_cons, List.not_mem_nil, or_false, not_or, not_false_eq_true,
    and_true, ne_eq]

end Sys2Proof
end

section
/-!
PROOFS (30_encoding.md R82 to R99). The formats: a word is that of given operands if and only if it has the format's
fixed bits and the decoder reads those operands from it. From left to right this says what the decoder does with an
encoded word, from right to left that the encoder keeps every bit of a word that decodes.
-/

namespace Sys2Proof

/-! ### A bit vector and its parts -/

/-- Two parts together are a bit vector if and only if they are its parts. -/
theorem append_eq_iff {n m : Nat} {x : BitVec n} {y : BitVec m} {w : BitVec (n + m)} :
    x ++ y = w ↔ x = w.extractLsb' m n ∧ y = w.extractLsb' 0 m := by
  constructor
  · rintro rfl
    rw [BitVec.extractLsb'_append_eq_of_le le_rfl, BitVec.extractLsb'_append_eq_of_add_le (by omega), Nat.sub_self,
      BitVec.extractLsb'_eq_self, BitVec.extractLsb'_eq_self]
    exact ⟨rfl, rfl⟩
  · rintro ⟨rfl, rfl⟩
    rw [BitVec.extractLsb'_append_extractLsb'_eq_extractLsb' (by omega), BitVec.extractLsb'_eq_self]

theorem append_eq_iff_parts {n m : Nat} {x : BitVec n} {y : BitVec m} {w : BitVec (n + m)} :
    x ++ y = w ↔ w.extractLsb' m n = x ∧ w.extractLsb' 0 m = y :=
  append_eq_iff.trans (and_congr eq_comm eq_comm)

theorem extract_extract {n a b c d : Nat} {w : BitVec n} (h : c + d ≤ b) :
    (w.extractLsb' a b).extractLsb' c d = w.extractLsb' (a + c) d := by
  ext j hj
  simp [show c + j < b by omega, Nat.add_assoc]

theorem and_of_allOnes {n : Nat} {x m : BitVec n} (h : m = BitVec.allOnes n) : x &&& m = x := by
  rw [h, BitVec.and_allOnes]

theorem and_of_zero {n : Nat} {x m : BitVec n} (h : m = 0#n) : x &&& m = 0#n := by
  rw [h, BitVec.and_zero]

/-- An index and its bits. -/
theorem toNat_eq_iff {n : Nat} {x : BitVec n} {d : Fin (2 ^ n)} :
    (⟨x.toNat, x.isLt⟩ : Fin (2 ^ n)) = d ↔ BitVec.ofNat n d.val = x := by
  rw [eq_comm, Fin.ext_iff, ← BitVec.toNat_inj, BitVec.toNat_ofNat, Nat.mod_eq_of_lt d.isLt]

/-! ### The fields of a word, one by one -/

section
open Encode Decode

variable {w : Word}

theorem regBits_zero : regBits 0 = 0#5 := rfl
theorem upperBits_zero : upperBits 0 = 0#4 := rfl
theorem midBits_zero : midBits 0 = 0#3 := rfl
theorem evenBits_zero : evenBits 0 = 0#4 := rfl
theorem pairHighBits_zero : pairHighBits 0 = 0#2 := rfl
theorem posBits_zero : posBits 0 = 0#3 := rfl

theorem regD5_eq_iff {d : Reg} : regD5 w = d ↔ regBits d = w.extractLsb' 4 5 := toNat_eq_iff

theorem regR5_eq_iff {r : Reg} :
    regR5 w = r ↔ (regBits r).extractLsb' 4 1 = w.extractLsb' 9 1 ∧ (regBits r).extractLsb' 0 4 = w.extractLsb' 0 4 :=
  toNat_eq_iff.trans (eq_comm.trans append_eq_iff_parts)

theorem Reg.upper_iff {d : Reg} : Reg.upper d = true ↔ 16 ≤ d.val := decide_eq_true_iff

theorem Reg.mid_iff {d : Reg} : Reg.mid d = true ↔ 16 ≤ d.val ∧ d.val ≤ 23 := by simp [Reg.mid]

theorem Reg.even_iff {d : Reg} : Reg.even d = true ↔ d.val % 2 = 0 := beq_iff_eq

theorem Reg.pairHigh_iff {d : Reg} : Reg.pairHigh d = true ↔ 24 ≤ d.val ∧ d.val % 2 = 0 := by simp [Reg.pairHigh]

theorem regUpper_upper (n : BitVec 4) : Reg.upper (regUpper n) = true := Reg.upper_iff.2 (Nat.le_add_right 16 n.toNat)

theorem regMid_mid (n : BitVec 3) : Reg.mid (regMid n) = true := by
  simp only [Reg.mid_iff, regMid]
  omega

theorem regEven_even (n : BitVec 4) : Reg.even (regEven n) = true := Reg.even_iff.2 (Nat.mul_mod_right 2 n.toNat)

theorem pairD2_pairHigh (w : Word) : Reg.pairHigh (pairD2 w) = true := by
  simp only [Reg.pairHigh_iff, pairD2]
  omega

theorem regD4_upper (w : Word) : Reg.upper (regD4 w) = true := regUpper_upper _
theorem regR4_upper (w : Word) : Reg.upper (regR4 w) = true := regUpper_upper _
theorem regD3_mid (w : Word) : Reg.mid (regD3 w) = true := regMid_mid _
theorem regR3_mid (w : Word) : Reg.mid (regR3 w) = true := regMid_mid _
theorem pairD4_even (w : Word) : Reg.even (pairD4 w) = true := regEven_even _
theorem pairR4_even (w : Word) : Reg.even (pairR4 w) = true := regEven_even _

theorem regUpper_eq_iff {d : Reg} (hd : Reg.upper d = true) {n : BitVec 4} : regUpper n = d ↔ upperBits d = n := by
  rw [Reg.upper_iff] at hd
  simp only [regUpper, upperBits, Fin.ext_iff, ← BitVec.toNat_inj, BitVec.toNat_ofNat]
  omega

theorem regMid_eq_iff {d : Reg} (hd : Reg.mid d = true) {n : BitVec 3} : regMid n = d ↔ midBits d = n := by
  rw [Reg.mid_iff] at hd
  simp only [regMid, midBits, Fin.ext_iff, ← BitVec.toNat_inj, BitVec.toNat_ofNat]
  omega

theorem regD4_eq_iff {d : Reg} (hd : Reg.upper d = true) : regD4 w = d ↔ upperBits d = w.extractLsb' 4 4 :=
  regUpper_eq_iff hd

theorem regR4_eq_iff {r : Reg} (hr : Reg.upper r = true) : regR4 w = r ↔ upperBits r = w.extractLsb' 0 4 :=
  regUpper_eq_iff hr

theorem regD3_eq_iff {d : Reg} (hd : Reg.mid d = true) : regD3 w = d ↔ midBits d = w.extractLsb' 4 3 :=
  regMid_eq_iff hd

theorem regR3_eq_iff {r : Reg} (hr : Reg.mid r = true) : regR3 w = r ↔ midBits r = w.extractLsb' 0 3 :=
  regMid_eq_iff hr

theorem regEven_eq_iff {d : Reg} (hd : Reg.even d = true) {n : BitVec 4} : regEven n = d ↔ evenBits d = n := by
  rw [Reg.even_iff] at hd
  simp only [regEven, evenBits, Fin.ext_iff, ← BitVec.toNat_inj, BitVec.toNat_ofNat]
  omega

theorem pairD4_eq_iff {d : Reg} (hd : Reg.even d = true) : pairD4 w = d ↔ evenBits d = w.extractLsb' 4 4 :=
  regEven_eq_iff hd

theorem pairR4_eq_iff {r : Reg} (hr : Reg.even r = true) : pairR4 w = r ↔ evenBits r = w.extractLsb' 0 4 :=
  regEven_eq_iff hr

theorem pairD2_eq_iff {d : Reg} (hd : Reg.pairHigh d = true) : pairD2 w = d ↔ pairHighBits d = w.extractLsb' 4 2 := by
  rw [Reg.pairHigh_iff] at hd
  simp only [pairD2, pairHighBits, Fin.ext_iff, ← BitVec.toNat_inj, BitVec.toNat_ofNat]
  omega

theorem constK8_eq_iff {k : Byte} :
    constK8 w = k ↔ k.extractLsb' 4 4 = w.extractLsb' 8 4 ∧ k.extractLsb' 0 4 = w.extractLsb' 0 4 :=
  append_eq_iff_parts

theorem constK6_eq_iff {k : BitVec 6} :
    constK6 w = k ↔ k.extractLsb' 4 2 = w.extractLsb' 6 2 ∧ k.extractLsb' 0 4 = w.extractLsb' 0 4 :=
  append_eq_iff_parts

theorem dispQ6_eq_iff {q : BitVec 6} :
    dispQ6 w = q ↔ (q.extractLsb' 5 1 = w.extractLsb' 13 1 ∧ q.extractLsb' 3 2 = w.extractLsb' 10 2) ∧
      q.extractLsb' 0 3 = w.extractLsb' 0 3 := by
  rw [dispQ6, append_eq_iff_parts, eq_comm (a := q.extractLsb' 3 _), append_eq_iff_parts,
    extract_extract (by decide), extract_extract (by decide)]

theorem ioA6_eq_iff {a : BitVec 6} :
    ioA6 w = a ↔ a.extractLsb' 4 2 = w.extractLsb' 9 2 ∧ a.extractLsb' 0 4 = w.extractLsb' 0 4 :=
  append_eq_iff_parts

theorem bitB_eq_iff {b : BitPos} : bitB w = b ↔ posBits b = w.extractLsb' 0 3 := toNat_eq_iff

theorem flagS_eq_iff {f : BitPos} : flagS w = f ↔ posBits f = w.extractLsb' 4 3 := toNat_eq_iff

theorem ioA5_eq_iff {a : BitVec 5} : ioA5 w = a ↔ a = w.extractLsb' 3 5 := eq_comm

theorem relK12_eq_iff {k : BitVec 12} : relK12 w = k ↔ k = w.extractLsb' 0 12 := eq_comm

theorem relK7_eq_iff {k : BitVec 7} : relK7 w = k ↔ k = w.extractLsb' 3 7 := eq_comm

theorem absK22_eq_iff {w1 : Word} {k : BitVec 22} :
    absK22 w w1 = k ↔ (k.extractLsb' 17 5 = w.extractLsb' 4 5 ∧ k.extractLsb' 16 1 = w.extractLsb' 0 1) ∧
      k.extractLsb' 0 16 = w1 := by
  rw [absK22, append_eq_iff_parts, eq_comm (a := k.extractLsb' 16 _), append_eq_iff_parts,
    extract_extract (by decide), extract_extract (by decide)]

/-! ### The formats (30_encoding.md R82)

The fixed bits of a format are the word of operands that are all zero. Both sides of each equivalence say what the parts
of `w` are: the mask keeps a part of fixed bits and clears a part of an operand. -/

theorem encRdRr_eq_iff {op : BitVec 6} {d r : Reg} :
    encRdRr op d r = w ↔ encRdRr op 0 0 = w &&& 0xFC00 ∧ regD5 w = d ∧ regR5 w = r := by
  unfold encRdRr
  repeat rw [append_eq_iff]
  rw [regD5_eq_iff, regR5_eq_iff, regBits_zero]
  simp (disch := decide) only [extract_extract, BitVec.extractLsb'_and, and_of_allOnes, and_of_zero, Nat.reduceAdd]
  tauto

theorem encRdK8_eq_iff {op : BitVec 4} {d : Reg} (hd : Reg.upper d = true) {k : Byte} :
    encRdK8 op d k = w ↔ encRdK8 op 0 0 = w &&& 0xF000 ∧ regD4 w = d ∧ constK8 w = k := by
  unfold encRdK8
  repeat rw [append_eq_iff]
  rw [regD4_eq_iff hd, constK8_eq_iff, upperBits_zero]
  simp (disch := decide) only [extract_extract, BitVec.extractLsb'_and, and_of_allOnes, and_of_zero, Nat.reduceAdd]
  tauto

theorem encRd_eq_iff {op : BitVec 4} {d : Reg} :
    encRd d op = w ↔ encRd 0 op = w &&& 0xFE0F ∧ regD5 w = d := by
  unfold encRd
  repeat rw [append_eq_iff]
  rw [regD5_eq_iff, regBits_zero]
  simp (disch := decide) only [extract_extract, BitVec.extractLsb'_and, and_of_allOnes, and_of_zero, Nat.reduceAdd]
  tauto

theorem encPairK6_eq_iff {op : BitVec 8} {d : Reg} (hd : Reg.pairHigh d = true) {k : BitVec 6} :
    encPairK6 op d k = w ↔ encPairK6 op 0 0 = w &&& 0xFF00 ∧ pairD2 w = d ∧ constK6 w = k := by
  unfold encPairK6
  repeat rw [append_eq_iff]
  rw [pairD2_eq_iff hd, constK6_eq_iff, pairHighBits_zero]
  simp (disch := decide) only [extract_extract, BitVec.extractLsb'_and, and_of_allOnes, and_of_zero, Nat.reduceAdd]
  tauto

theorem encPairPair_eq_iff {d r : Reg} (hd : Reg.even d = true) (hr : Reg.even r = true) :
    encPairPair d r = w ↔ encPairPair 0 0 = w &&& 0xFF00 ∧ pairD4 w = d ∧ pairR4 w = r := by
  unfold encPairPair
  repeat rw [append_eq_iff]
  rw [pairD4_eq_iff hd, pairR4_eq_iff hr, evenBits_zero]
  simp (disch := decide) only [extract_extract, BitVec.extractLsb'_and, and_of_allOnes, and_of_zero, Nat.reduceAdd]
  tauto

theorem encRd4Rr4_eq_iff {op : BitVec 8} {d r : Reg} (hd : Reg.upper d = true) (hr : Reg.upper r = true) :
    encRd4Rr4 op d r = w ↔ encRd4Rr4 op 0 0 = w &&& 0xFF00 ∧ regD4 w = d ∧ regR4 w = r := by
  unfold encRd4Rr4
  repeat rw [append_eq_iff]
  rw [regD4_eq_iff hd, regR4_eq_iff hr, upperBits_zero]
  simp (disch := decide) only [extract_extract, BitVec.extractLsb'_and, and_of_allOnes, and_of_zero, Nat.reduceAdd]
  tauto

theorem encRd3Rr3_eq_iff {o1 o2 : BitVec 1} {d r : Reg} (hd : Reg.mid d = true) (hr : Reg.mid r = true) :
    encRd3Rr3 o1 o2 d r = w ↔ encRd3Rr3 o1 o2 0 0 = w &&& 0xFF88 ∧ regD3 w = d ∧ regR3 w = r := by
  unfold encRd3Rr3
  repeat rw [append_eq_iff]
  rw [regD3_eq_iff hd, regR3_eq_iff hr, midBits_zero]
  simp (disch := decide) only [extract_extract, BitVec.extractLsb'_and, and_of_allOnes, and_of_zero, Nat.reduceAdd]
  tauto

theorem encLdSt_eq_iff {s : BitVec 1} {d : Reg} {mode : BitVec 4} :
    encLdSt s d mode = w ↔ encLdSt s 0 mode = w &&& 0xFE0F ∧ regD5 w = d := by
  unfold encLdSt
  repeat rw [append_eq_iff]
  rw [regD5_eq_iff, regBits_zero]
  simp (disch := decide) only [extract_extract, BitVec.extractLsb'_and, and_of_allOnes, and_of_zero, Nat.reduceAdd]
  tauto

theorem encLddStd_eq_iff {s y : BitVec 1} {d : Reg} {q : BitVec 6} :
    encLddStd s y d q = w ↔ encLddStd s y 0 0 = w &&& 0xD208 ∧ regD5 w = d ∧ dispQ6 w = q := by
  unfold encLddStd
  repeat rw [append_eq_iff]
  rw [regD5_eq_iff, dispQ6_eq_iff, regBits_zero]
  simp (disch := decide) only [extract_extract, BitVec.extractLsb'_and, and_of_allOnes, and_of_zero, Nat.reduceAdd]
  tauto

theorem encIO_eq_iff {s : BitVec 1} {d : Reg} {a : BitVec 6} :
    encIO s d a = w ↔ encIO s 0 0 = w &&& 0xF800 ∧ regD5 w = d ∧ ioA6 w = a := by
  unfold encIO
  repeat rw [append_eq_iff]
  rw [regD5_eq_iff, ioA6_eq_iff, regBits_zero]
  simp (disch := decide) only [extract_extract, BitVec.extractLsb'_and, and_of_allOnes, and_of_zero, Nat.reduceAdd]
  tauto

theorem encIOBit_eq_iff {op : BitVec 2} {a : BitVec 5} {b : BitPos} :
    encIOBit op a b = w ↔ encIOBit op 0 0 = w &&& 0xFF00 ∧ ioA5 w = a ∧ bitB w = b := by
  unfold encIOBit
  repeat rw [append_eq_iff]
  rw [ioA5_eq_iff, bitB_eq_iff, posBits_zero]
  simp (disch := decide) only [extract_extract, BitVec.extractLsb'_and, and_of_allOnes, and_of_zero, Nat.reduceAdd]
  tauto

theorem encRegBit_eq_iff {op : BitVec 2} {d : Reg} {b : BitPos} :
    encRegBit op d b = w ↔ encRegBit op 0 0 = w &&& 0xFE08 ∧ regD5 w = d ∧ bitB w = b := by
  unfold encRegBit
  repeat rw [append_eq_iff]
  rw [regD5_eq_iff, bitB_eq_iff, regBits_zero, posBits_zero]
  simp (disch := decide) only [extract_extract, BitVec.extractLsb'_and, and_of_allOnes, and_of_zero, Nat.reduceAdd]
  tauto

theorem encSregBit_eq_iff {o : BitVec 1} {f : BitPos} :
    encSregBit o f = w ↔ encSregBit o 0 = w &&& 0xFF8F ∧ flagS w = f := by
  unfold encSregBit
  repeat rw [append_eq_iff]
  rw [flagS_eq_iff, posBits_zero]
  simp (disch := decide) only [extract_extract, BitVec.extractLsb'_and, and_of_allOnes, and_of_zero, Nat.reduceAdd]
  tauto

theorem encBr_eq_iff {o : BitVec 1} {f : BitPos} {k : BitVec 7} :
    encBr o f k = w ↔ encBr o 0 0 = w &&& 0xFC00 ∧ bitB w = f ∧ relK7 w = k := by
  unfold encBr
  repeat rw [append_eq_iff]
  rw [bitB_eq_iff, relK7_eq_iff, posBits_zero]
  simp (disch := decide) only [extract_extract, BitVec.extractLsb'_and, and_of_allOnes, and_of_zero, Nat.reduceAdd]
  tauto

theorem encRel12_eq_iff {o : BitVec 1} {k : BitVec 12} :
    encRel12 o k = w ↔ encRel12 o 0 = w &&& 0xF000 ∧ relK12 w = k := by
  unfold encRel12
  repeat rw [append_eq_iff]
  rw [relK12_eq_iff]
  simp (disch := decide) only [extract_extract, BitVec.extractLsb'_and, and_of_allOnes, and_of_zero, Nat.reduceAdd]
  tauto

/-- Both words of format Abs22. -/
theorem encAbs22_eq_iff {o : BitVec 1} {k : BitVec 22} {w1 : Word} :
    encAbs22 o k = [w, w1] ↔ (0b1001010#7 ++ 0#5 ++ 0b11#2 ++ o ++ 0#1 : Word) = w &&& 0xFE0E ∧ absK22 w w1 = k := by
  rw [encAbs22, List.cons_eq_cons, List.cons_eq_cons]
  repeat rw [append_eq_iff]
  rw [absK22_eq_iff]
  simp (disch := decide) only [extract_extract, BitVec.extractLsb'_and, and_of_allOnes, and_of_zero, Nat.reduceAdd]
  tauto

end

end Sys2Proof
end

section
/-!
PROOFS (30_encoding.md R100 to R103, R108). The rows of the table and the words of the instructions, format by format:
every row's instruction has the words it was built from, and the words of every instruction decode to the canonical
instruction they are.
-/

namespace Sys2Proof

section
open Encode Decode

/-! ### From a row's words to its instruction and back -/

/-- A well-formed canonical instruction with these words. -/
structure Instr.IsCodedAs (i : Instr) (ws : List Word) : Prop where
  wellFormed : i.wellFormed = true
  canonical : i.canonical = i
  encode_eq : encode i = ws

/-- A row's instruction has the words that it was built from. -/
def Row.Rebuilds (row : Row) : Prop :=
  ∀ w w1, row.words.Contains w → (row.build w w1).IsCodedAs (if isTwoWord row.pattern then [w, w1] else [w])

theorem Row.rebuilds_of_oneWord {row : Row} (hone : isTwoWord row.pattern = false)
    (h : ∀ w w1, row.words.Contains w → ∃ v, v = w ∧ (row.build w w1).IsCodedAs [v]) : row.Rebuilds := by
  intro w w1 hw
  obtain ⟨_, rfl, hcoded⟩ := h w w1 hw
  rwa [hone]

theorem Row.rebuilds_of_twoWords {row : Row} (htwo : isTwoWord row.pattern = true)
    (h : ∀ w w1, row.words.Contains w → ∃ ws, ws = [w, w1] ∧ (row.build w w1).IsCodedAs ws) : row.Rebuilds := by
  intro w w1 hw
  obtain ⟨_, rfl, hcoded⟩ := h w w1 hw
  rwa [htwo]

/-! One lemma for the rows of each format. What it asks of a row, that the instruction is encoded in the format and that
the row's pattern is the format's with operands that are all zero, is for a row of the table a matter of evaluation. -/

theorem rdRr_rebuilds {op : BitVec 6} {g : Reg → Reg → Instr} {p : Word}
    (hg : ∀ d r, (g d r).IsCodedAs [encRdRr op d r] := by exact fun _ _ => ⟨rfl, rfl, rfl⟩)
    (hp : p = encRdRr op 0 0 := by rfl) (hone : isTwoWord p = false := by rfl) :
    Row.Rebuilds ⟨0xFC00, p, fun w _ => g (regD5 w) (regR5 w)⟩ :=
  Row.rebuilds_of_oneWord hone fun _ _ hw => ⟨_, encRdRr_eq_iff.2 ⟨(hw.trans hp).symm, rfl, rfl⟩, hg _ _⟩

theorem rdK8_rebuilds {op : BitVec 4} {g : Reg → Byte → Instr} {p : Word}
    (hg : ∀ d k, Reg.upper d = true → (g d k).IsCodedAs [encRdK8 op d k] := by exact fun _ _ h => ⟨h, rfl, rfl⟩)
    (hp : p = encRdK8 op 0 0 := by rfl) (hone : isTwoWord p = false := by rfl) :
    Row.Rebuilds ⟨0xF000, p, fun w _ => g (regD4 w) (constK8 w)⟩ :=
  Row.rebuilds_of_oneWord hone fun w _ hw =>
    ⟨_, (encRdK8_eq_iff (regD4_upper w)).2 ⟨(hw.trans hp).symm, rfl, rfl⟩, hg _ _ (regD4_upper w)⟩

theorem rd_rebuilds {op : BitVec 4} {g : Reg → Instr} {p : Word}
    (hg : ∀ d, (g d).IsCodedAs [encRd d op] := by exact fun _ => ⟨rfl, rfl, rfl⟩)
    (hp : p = encRd 0 op := by rfl) (hone : isTwoWord p = false := by rfl) :
    Row.Rebuilds ⟨0xFE0F, p, fun w _ => g (regD5 w)⟩ :=
  Row.rebuilds_of_oneWord hone fun _ _ hw => ⟨_, encRd_eq_iff.2 ⟨(hw.trans hp).symm, rfl⟩, hg _⟩

theorem pairK6_rebuilds {op : BitVec 8} {g : Reg → BitVec 6 → Instr} {p : Word}
    (hg : ∀ d k, Reg.pairHigh d = true → (g d k).IsCodedAs [encPairK6 op d k] := by exact fun _ _ h => ⟨h, rfl, rfl⟩)
    (hp : p = encPairK6 op 0 0 := by rfl) (hone : isTwoWord p = false := by rfl) :
    Row.Rebuilds ⟨0xFF00, p, fun w _ => g (pairD2 w) (constK6 w)⟩ :=
  Row.rebuilds_of_oneWord hone fun w _ hw =>
    ⟨_, (encPairK6_eq_iff (pairD2_pairHigh w)).2 ⟨(hw.trans hp).symm, rfl, rfl⟩, hg _ _ (pairD2_pairHigh w)⟩

theorem pairPair_rebuilds {g : Reg → Reg → Instr} {p : Word}
    (hg : ∀ d r, Reg.even d = true → Reg.even r = true → (g d r).IsCodedAs [encPairPair d r] := by
      exact fun _ _ hd hr => ⟨Bool.and_eq_true_iff.2 ⟨hd, hr⟩, rfl, rfl⟩)
    (hp : p = encPairPair 0 0 := by rfl) (hone : isTwoWord p = false := by rfl) :
    Row.Rebuilds ⟨0xFF00, p, fun w _ => g (pairD4 w) (pairR4 w)⟩ :=
  Row.rebuilds_of_oneWord hone fun w _ hw =>
    ⟨_, (encPairPair_eq_iff (pairD4_even w) (pairR4_even w)).2 ⟨(hw.trans hp).symm, rfl, rfl⟩,
      hg _ _ (pairD4_even w) (pairR4_even w)⟩

theorem rd4Rr4_rebuilds {op : BitVec 8} {g : Reg → Reg → Instr} {p : Word}
    (hg : ∀ d r, Reg.upper d = true → Reg.upper r = true → (g d r).IsCodedAs [encRd4Rr4 op d r] := by
      exact fun _ _ hd hr => ⟨Bool.and_eq_true_iff.2 ⟨hd, hr⟩, rfl, rfl⟩)
    (hp : p = encRd4Rr4 op 0 0 := by rfl) (hone : isTwoWord p = false := by rfl) :
    Row.Rebuilds ⟨0xFF00, p, fun w _ => g (regD4 w) (regR4 w)⟩ :=
  Row.rebuilds_of_oneWord hone fun w _ hw =>
    ⟨_, (encRd4Rr4_eq_iff (regD4_upper w) (regR4_upper w)).2 ⟨(hw.trans hp).symm, rfl, rfl⟩,
      hg _ _ (regD4_upper w) (regR4_upper w)⟩

theorem rd3Rr3_rebuilds {o1 o2 : BitVec 1} {g : Reg → Reg → Instr} {p : Word}
    (hg : ∀ d r, Reg.mid d = true → Reg.mid r = true → (g d r).IsCodedAs [encRd3Rr3 o1 o2 d r] := by
      exact fun _ _ hd hr => ⟨Bool.and_eq_true_iff.2 ⟨hd, hr⟩, rfl, rfl⟩)
    (hp : p = encRd3Rr3 o1 o2 0 0 := by rfl) (hone : isTwoWord p = false := by rfl) :
    Row.Rebuilds ⟨0xFF88, p, fun w _ => g (regD3 w) (regR3 w)⟩ :=
  Row.rebuilds_of_oneWord hone fun w _ hw =>
    ⟨_, (encRd3Rr3_eq_iff (regD3_mid w) (regR3_mid w)).2 ⟨(hw.trans hp).symm, rfl, rfl⟩,
      hg _ _ (regD3_mid w) (regR3_mid w)⟩

theorem ldSt_rebuilds {s : BitVec 1} {mode : BitVec 4} {g : Reg → Instr} {p : Word}
    (hg : ∀ d, (g d).IsCodedAs [encLdSt s d mode] := by exact fun _ => ⟨rfl, rfl, rfl⟩)
    (hp : p = encLdSt s 0 mode := by rfl) (hone : isTwoWord p = false := by rfl) :
    Row.Rebuilds ⟨0xFE0F, p, fun w _ => g (regD5 w)⟩ :=
  Row.rebuilds_of_oneWord hone fun _ _ hw => ⟨_, encLdSt_eq_iff.2 ⟨(hw.trans hp).symm, rfl⟩, hg _⟩

theorem lddStd_rebuilds {s y : BitVec 1} {g : Reg → BitVec 6 → Instr} {p : Word}
    (hg : ∀ d q, (g d q).IsCodedAs [encLddStd s y d q] := by exact fun _ _ => ⟨rfl, rfl, rfl⟩)
    (hp : p = encLddStd s y 0 0 := by rfl) (hone : isTwoWord p = false := by rfl) :
    Row.Rebuilds ⟨0xD208, p, fun w _ => g (regD5 w) (dispQ6 w)⟩ :=
  Row.rebuilds_of_oneWord hone fun _ _ hw => ⟨_, encLddStd_eq_iff.2 ⟨(hw.trans hp).symm, rfl, rfl⟩, hg _ _⟩

theorem io_rebuilds {s : BitVec 1} {g : Reg → BitVec 6 → Instr} {p : Word}
    (hg : ∀ d a, (g d a).IsCodedAs [encIO s d a] := by exact fun _ _ => ⟨rfl, rfl, rfl⟩)
    (hp : p = encIO s 0 0 := by rfl) (hone : isTwoWord p = false := by rfl) :
    Row.Rebuilds ⟨0xF800, p, fun w _ => g (regD5 w) (ioA6 w)⟩ :=
  Row.rebuilds_of_oneWord hone fun _ _ hw => ⟨_, encIO_eq_iff.2 ⟨(hw.trans hp).symm, rfl, rfl⟩, hg _ _⟩

theorem ioBit_rebuilds {op : BitVec 2} {g : BitVec 5 → BitPos → Instr} {p : Word}
    (hg : ∀ a b, (g a b).IsCodedAs [encIOBit op a b] := by exact fun _ _ => ⟨rfl, rfl, rfl⟩)
    (hp : p = encIOBit op 0 0 := by rfl) (hone : isTwoWord p = false := by rfl) :
    Row.Rebuilds ⟨0xFF00, p, fun w _ => g (ioA5 w) (bitB w)⟩ :=
  Row.rebuilds_of_oneWord hone fun _ _ hw => ⟨_, encIOBit_eq_iff.2 ⟨(hw.trans hp).symm, rfl, rfl⟩, hg _ _⟩

theorem regBit_rebuilds {op : BitVec 2} {g : Reg → BitPos → Instr} {p : Word}
    (hg : ∀ d b, (g d b).IsCodedAs [encRegBit op d b] := by exact fun _ _ => ⟨rfl, rfl, rfl⟩)
    (hp : p = encRegBit op 0 0 := by rfl) (hone : isTwoWord p = false := by rfl) :
    Row.Rebuilds ⟨0xFE08, p, fun w _ => g (regD5 w) (bitB w)⟩ :=
  Row.rebuilds_of_oneWord hone fun _ _ hw => ⟨_, encRegBit_eq_iff.2 ⟨(hw.trans hp).symm, rfl, rfl⟩, hg _ _⟩

theorem sregBit_rebuilds {o : BitVec 1} {g : BitPos → Instr} {p : Word}
    (hg : ∀ f, (g f).IsCodedAs [encSregBit o f] := by exact fun _ => ⟨rfl, rfl, rfl⟩)
    (hp : p = encSregBit o 0 := by rfl) (hone : isTwoWord p = false := by rfl) :
    Row.Rebuilds ⟨0xFF8F, p, fun w _ => g (flagS w)⟩ :=
  Row.rebuilds_of_oneWord hone fun _ _ hw => ⟨_, encSregBit_eq_iff.2 ⟨(hw.trans hp).symm, rfl⟩, hg _⟩

theorem br_rebuilds {o : BitVec 1} {g : BitPos → BitVec 7 → Instr} {p : Word}
    (hg : ∀ f k, (g f k).IsCodedAs [encBr o f k] := by exact fun _ _ => ⟨rfl, rfl, rfl⟩)
    (hp : p = encBr o 0 0 := by rfl) (hone : isTwoWord p = false := by rfl) :
    Row.Rebuilds ⟨0xFC00, p, fun w _ => g (bitB w) (relK7 w)⟩ :=
  Row.rebuilds_of_oneWord hone fun _ _ hw => ⟨_, encBr_eq_iff.2 ⟨(hw.trans hp).symm, rfl, rfl⟩, hg _ _⟩

theorem rel12_rebuilds {o : BitVec 1} {g : BitVec 12 → Instr} {p : Word}
    (hg : ∀ k, (g k).IsCodedAs [encRel12 o k] := by exact fun _ => ⟨rfl, rfl, rfl⟩)
    (hp : p = encRel12 o 0 := by rfl) (hone : isTwoWord p = false := by rfl) :
    Row.Rebuilds ⟨0xF000, p, fun w _ => g (relK12 w)⟩ :=
  Row.rebuilds_of_oneWord hone fun _ _ hw => ⟨_, encRel12_eq_iff.2 ⟨(hw.trans hp).symm, rfl⟩, hg _⟩

theorem ldSt2_rebuilds {s : BitVec 1} {mode : BitVec 4} {g : Reg → Word → Instr} {p : Word}
    (hg : ∀ d k, (g d k).IsCodedAs [encLdSt s d mode, k] := by exact fun _ _ => ⟨rfl, rfl, rfl⟩)
    (hp : p = encLdSt s 0 mode := by rfl) (htwo : isTwoWord p = true := by rfl) :
    Row.Rebuilds ⟨0xFE0F, p, fun w w1 => g (regD5 w) w1⟩ :=
  Row.rebuilds_of_twoWords htwo fun _ w1 hw =>
    ⟨_, congrArg (fun v => [v, w1]) (encLdSt_eq_iff.2 ⟨(hw.trans hp).symm, rfl⟩), hg _ _⟩

theorem abs22_rebuilds {o : BitVec 1} {g : BitVec 22 → Instr} {p : Word}
    (hg : ∀ k, (g k).IsCodedAs (encAbs22 o k) := by exact fun _ => ⟨rfl, rfl, rfl⟩)
    (hp : p = 0b1001010#7 ++ 0#5 ++ 0b11#2 ++ o ++ 0#1 := by rfl) (htwo : isTwoWord p = true := by rfl) :
    Row.Rebuilds ⟨0xFE0E, p, fun w w1 => g (absK22 w w1)⟩ :=
  Row.rebuilds_of_twoWords htwo fun _ _ hw => ⟨_, encAbs22_eq_iff.2 ⟨(hw.trans hp).symm, rfl⟩, hg _⟩

/-- An instruction without operands has one word. -/
theorem fixed_rebuilds {i : Instr} {p : Word} (hi : i.IsCodedAs [p] := by exact ⟨rfl, rfl, rfl⟩)
    (hone : isTwoWord p = false := by rfl) : Row.Rebuilds ⟨0xFFFF, p, fun _ _ => i⟩ :=
  Row.rebuilds_of_oneWord hone fun _ _ hw => ⟨p, hw.symm.trans (and_of_allOnes rfl), hi⟩

/-! The rows of the table, in its order. -/

theorem rowsArith_rebuild : ∀ row ∈ rowsArith, row.Rebuilds := by
  simp only [rowsArith, List.forall_mem_cons]
  exact ⟨rdRr_rebuilds, rdRr_rebuilds, pairK6_rebuilds, rdRr_rebuilds, rdK8_rebuilds, rdRr_rebuilds, rdK8_rebuilds,
    pairK6_rebuilds, rdRr_rebuilds, rdK8_rebuilds, rdRr_rebuilds, rdK8_rebuilds, rdRr_rebuilds, rd_rebuilds,
    rd_rebuilds, rd_rebuilds, rd_rebuilds, rdRr_rebuilds, rd4Rr4_rebuilds, rd3Rr3_rebuilds, rd3Rr3_rebuilds,
    rd3Rr3_rebuilds, rd3Rr3_rebuilds, List.forall_mem_nil _⟩

theorem rowsBranch_rebuild : ∀ row ∈ rowsBranch, row.Rebuilds := by
  simp only [rowsBranch, List.forall_mem_cons]
  exact ⟨rel12_rebuilds, fixed_rebuilds, abs22_rebuilds, rel12_rebuilds, fixed_rebuilds, abs22_rebuilds,
    fixed_rebuilds, fixed_rebuilds, rdRr_rebuilds, rdRr_rebuilds, rdRr_rebuilds, rdK8_rebuilds, regBit_rebuilds,
    regBit_rebuilds, ioBit_rebuilds, ioBit_rebuilds, br_rebuilds, br_rebuilds, List.forall_mem_nil _⟩

theorem rowsTransfer_rebuild : ∀ row ∈ rowsTransfer, row.Rebuilds := by
  simp only [rowsTransfer, List.forall_mem_cons]
  exact ⟨rdRr_rebuilds, pairPair_rebuilds, rdK8_rebuilds, ldSt_rebuilds, ldSt_rebuilds, ldSt_rebuilds, ldSt_rebuilds,
    ldSt_rebuilds, lddStd_rebuilds, ldSt_rebuilds, ldSt_rebuilds, lddStd_rebuilds, ldSt2_rebuilds, ldSt_rebuilds,
    ldSt_rebuilds, ldSt_rebuilds, ldSt_rebuilds, ldSt_rebuilds, lddStd_rebuilds (g := fun d q => .stdY q d),
    ldSt_rebuilds, ldSt_rebuilds, lddStd_rebuilds (g := fun d q => .stdZ q d),
    ldSt2_rebuilds (g := fun d k => .sts k d), fixed_rebuilds, ldSt_rebuilds, ldSt_rebuilds, fixed_rebuilds,
    io_rebuilds, io_rebuilds (g := fun d a => .out a d), ldSt_rebuilds, ldSt_rebuilds, List.forall_mem_nil _⟩

theorem rowsBits_rebuild : ∀ row ∈ rowsBits, row.Rebuilds := by
  simp only [rowsBits, List.forall_mem_cons]
  exact ⟨ioBit_rebuilds, ioBit_rebuilds, rd_rebuilds, rd_rebuilds, rd_rebuilds, rd_rebuilds, regBit_rebuilds,
    regBit_rebuilds, sregBit_rebuilds, sregBit_rebuilds, List.forall_mem_nil _⟩

theorem rowsMcu_rebuild : ∀ row ∈ rowsMcu, row.Rebuilds := by
  simp only [rowsMcu, List.forall_mem_cons]
  exact ⟨fixed_rebuilds, fixed_rebuilds, fixed_rebuilds, fixed_rebuilds, List.forall_mem_nil _⟩

theorem rows_rebuild : ∀ row ∈ rows, row.Rebuilds := by
  simp only [rows, List.forall_mem_append]
  exact ⟨⟨⟨⟨rowsArith_rebuild, rowsBranch_rebuild⟩, rowsTransfer_rebuild⟩, rowsBits_rebuild⟩, rowsMcu_rebuild⟩

/-! ### From an instruction to its words and back -/

/-- The words `ws`, one or two, decode to `i`. -/
def DecodesTo (ws : List Word) (i : Instr) : Prop := decodeWords (ws.headD 0) (ws.getD 1 0) = some i

/-- A word belongs to the row that some word is found to belong to, if it has that row's fixed bits. -/
theorem decodeWords_eq_some_of_findRow {w p w1 : Word} {row : Row} {i : Instr} (hrow : findRow p = some row)
    (hw : row.words.Contains w) (hi : row.build w w1 = i) : decodeWords w w1 = some i :=
  decodeWords_eq_some_iff.2 ⟨row, (findRow_eq_some_iff.1 hrow).1, hw, hi⟩

/-! One lemma for the words of each format, of which only the row is left to find. -/

theorem decodesTo_encRdRr {op : BitVec 6} {g : Reg → Reg → Instr} {d r : Reg}
    (hrow : findRow (encRdRr op 0 0) = some ⟨0xFC00, encRdRr op 0 0, fun w _ => g (regD5 w) (regR5 w)⟩) :
    DecodesTo [encRdRr op d r] (g d r) := by
  obtain ⟨hw, hd, hr⟩ := encRdRr_eq_iff.1 (Eq.refl (encRdRr op d r))
  exact decodeWords_eq_some_of_findRow hrow hw.symm (congrArg₂ g hd hr)

theorem decodesTo_encRdK8 {op : BitVec 4} {g : Reg → Byte → Instr} {d : Reg} {k : Byte} (hd : Reg.upper d = true)
    (hrow : findRow (encRdK8 op 0 0) = some ⟨0xF000, encRdK8 op 0 0, fun w _ => g (regD4 w) (constK8 w)⟩) :
    DecodesTo [encRdK8 op d k] (g d k) := by
  obtain ⟨hw, hreadD, hreadK⟩ := (encRdK8_eq_iff hd).1 (Eq.refl (encRdK8 op d k))
  exact decodeWords_eq_some_of_findRow hrow hw.symm (congrArg₂ g hreadD hreadK)

theorem decodesTo_encRd {op : BitVec 4} {g : Reg → Instr} {d : Reg}
    (hrow : findRow (encRd 0 op) = some ⟨0xFE0F, encRd 0 op, fun w _ => g (regD5 w)⟩) :
    DecodesTo [encRd d op] (g d) := by
  obtain ⟨hw, hd⟩ := encRd_eq_iff.1 (Eq.refl (encRd d op))
  exact decodeWords_eq_some_of_findRow hrow hw.symm (congrArg g hd)

theorem decodesTo_encPairK6 {op : BitVec 8} {g : Reg → BitVec 6 → Instr} {d : Reg} {k : BitVec 6}
    (hd : Reg.pairHigh d = true)
    (hrow : findRow (encPairK6 op 0 0) = some ⟨0xFF00, encPairK6 op 0 0, fun w _ => g (pairD2 w) (constK6 w)⟩) :
    DecodesTo [encPairK6 op d k] (g d k) := by
  obtain ⟨hw, hreadD, hreadK⟩ := (encPairK6_eq_iff hd).1 (Eq.refl (encPairK6 op d k))
  exact decodeWords_eq_some_of_findRow hrow hw.symm (congrArg₂ g hreadD hreadK)

theorem decodesTo_encPairPair {g : Reg → Reg → Instr} {d r : Reg} (hd : Reg.even d = true) (hr : Reg.even r = true)
    (hrow : findRow (encPairPair 0 0) = some ⟨0xFF00, encPairPair 0 0, fun w _ => g (pairD4 w) (pairR4 w)⟩) :
    DecodesTo [encPairPair d r] (g d r) := by
  obtain ⟨hw, hreadD, hreadR⟩ := (encPairPair_eq_iff hd hr).1 (Eq.refl (encPairPair d r))
  exact decodeWords_eq_some_of_findRow hrow hw.symm (congrArg₂ g hreadD hreadR)

theorem decodesTo_encRd4Rr4 {op : BitVec 8} {g : Reg → Reg → Instr} {d r : Reg}
    (hd : Reg.upper d = true) (hr : Reg.upper r = true)
    (hrow : findRow (encRd4Rr4 op 0 0) = some ⟨0xFF00, encRd4Rr4 op 0 0, fun w _ => g (regD4 w) (regR4 w)⟩) :
    DecodesTo [encRd4Rr4 op d r] (g d r) := by
  obtain ⟨hw, hreadD, hreadR⟩ := (encRd4Rr4_eq_iff hd hr).1 (Eq.refl (encRd4Rr4 op d r))
  exact decodeWords_eq_some_of_findRow hrow hw.symm (congrArg₂ g hreadD hreadR)

theorem decodesTo_encRd3Rr3 {o1 o2 : BitVec 1} {g : Reg → Reg → Instr} {d r : Reg}
    (hd : Reg.mid d = true) (hr : Reg.mid r = true)
    (hrow : findRow (encRd3Rr3 o1 o2 0 0) = some ⟨0xFF88, encRd3Rr3 o1 o2 0 0, fun w _ => g (regD3 w) (regR3 w)⟩) :
    DecodesTo [encRd3Rr3 o1 o2 d r] (g d r) := by
  obtain ⟨hw, hreadD, hreadR⟩ := (encRd3Rr3_eq_iff hd hr).1 (Eq.refl (encRd3Rr3 o1 o2 d r))
  exact decodeWords_eq_some_of_findRow hrow hw.symm (congrArg₂ g hreadD hreadR)

theorem decodesTo_encLdSt {s : BitVec 1} {mode : BitVec 4} {g : Reg → Instr} {d : Reg}
    (hrow : findRow (encLdSt s 0 mode) = some ⟨0xFE0F, encLdSt s 0 mode, fun w _ => g (regD5 w)⟩) :
    DecodesTo [encLdSt s d mode] (g d) := by
  obtain ⟨hw, hd⟩ := encLdSt_eq_iff.1 (Eq.refl (encLdSt s d mode))
  exact decodeWords_eq_some_of_findRow hrow hw.symm (congrArg g hd)

theorem decodesTo_encLddStd {s y : BitVec 1} {g : Reg → BitVec 6 → Instr} {d : Reg} {q : BitVec 6}
    (hrow : findRow (encLddStd s y 0 0) = some ⟨0xD208, encLddStd s y 0 0, fun w _ => g (regD5 w) (dispQ6 w)⟩) :
    DecodesTo [encLddStd s y d q] (g d q) := by
  obtain ⟨hw, hd, hq⟩ := encLddStd_eq_iff.1 (Eq.refl (encLddStd s y d q))
  exact decodeWords_eq_some_of_findRow hrow hw.symm (congrArg₂ g hd hq)

theorem decodesTo_encIO {s : BitVec 1} {g : Reg → BitVec 6 → Instr} {d : Reg} {a : BitVec 6}
    (hrow : findRow (encIO s 0 0) = some ⟨0xF800, encIO s 0 0, fun w _ => g (regD5 w) (ioA6 w)⟩) :
    DecodesTo [encIO s d a] (g d a) := by
  obtain ⟨hw, hd, ha⟩ := encIO_eq_iff.1 (Eq.refl (encIO s d a))
  exact decodeWords_eq_some_of_findRow hrow hw.symm (congrArg₂ g hd ha)

theorem decodesTo_encIOBit {op : BitVec 2} {g : BitVec 5 → BitPos → Instr} {a : BitVec 5} {b : BitPos}
    (hrow : findRow (encIOBit op 0 0) = some ⟨0xFF00, encIOBit op 0 0, fun w _ => g (ioA5 w) (bitB w)⟩) :
    DecodesTo [encIOBit op a b] (g a b) := by
  obtain ⟨hw, ha, hb⟩ := encIOBit_eq_iff.1 (Eq.refl (encIOBit op a b))
  exact decodeWords_eq_some_of_findRow hrow hw.symm (congrArg₂ g ha hb)

theorem decodesTo_encRegBit {op : BitVec 2} {g : Reg → BitPos → Instr} {d : Reg} {b : BitPos}
    (hrow : findRow (encRegBit op 0 0) = some ⟨0xFE08, encRegBit op 0 0, fun w _ => g (regD5 w) (bitB w)⟩) :
    DecodesTo [encRegBit op d b] (g d b) := by
  obtain ⟨hw, hd, hb⟩ := encRegBit_eq_iff.1 (Eq.refl (encRegBit op d b))
  exact decodeWords_eq_some_of_findRow hrow hw.symm (congrArg₂ g hd hb)

theorem decodesTo_encSregBit {o : BitVec 1} {g : BitPos → Instr} {f : BitPos}
    (hrow : findRow (encSregBit o 0) = some ⟨0xFF8F, encSregBit o 0, fun w _ => g (flagS w)⟩) :
    DecodesTo [encSregBit o f] (g f) := by
  obtain ⟨hw, hf⟩ := encSregBit_eq_iff.1 (Eq.refl (encSregBit o f))
  exact decodeWords_eq_some_of_findRow hrow hw.symm (congrArg g hf)

theorem decodesTo_encBr {o : BitVec 1} {g : BitPos → BitVec 7 → Instr} {f : BitPos} {k : BitVec 7}
    (hrow : findRow (encBr o 0 0) = some ⟨0xFC00, encBr o 0 0, fun w _ => g (bitB w) (relK7 w)⟩) :
    DecodesTo [encBr o f k] (g f k) := by
  obtain ⟨hw, hf, hk⟩ := encBr_eq_iff.1 (Eq.refl (encBr o f k))
  exact decodeWords_eq_some_of_findRow hrow hw.symm (congrArg₂ g hf hk)

theorem decodesTo_encRel12 {o : BitVec 1} {g : BitVec 12 → Instr} {k : BitVec 12}
    (hrow : findRow (encRel12 o 0) = some ⟨0xF000, encRel12 o 0, fun w _ => g (relK12 w)⟩) :
    DecodesTo [encRel12 o k] (g k) := by
  obtain ⟨hw, hk⟩ := encRel12_eq_iff.1 (Eq.refl (encRel12 o k))
  exact decodeWords_eq_some_of_findRow hrow hw.symm (congrArg g hk)

theorem decodesTo_encLdSt2 {s : BitVec 1} {mode : BitVec 4} {g : Reg → Word → Instr} {d : Reg} {k : Word}
    (hrow : findRow (encLdSt s 0 mode) = some ⟨0xFE0F, encLdSt s 0 mode, fun w w1 => g (regD5 w) w1⟩) :
    DecodesTo [encLdSt s d mode, k] (g d k) := by
  obtain ⟨hw, hd⟩ := encLdSt_eq_iff.1 (Eq.refl (encLdSt s d mode))
  exact decodeWords_eq_some_of_findRow hrow hw.symm (congrArg (g · k) hd)

theorem decodesTo_encAbs22 {o : BitVec 1} {g : BitVec 22 → Instr} {k : BitVec 22}
    (hrow : findRow (0b1001010#7 ++ 0#5 ++ 0b11#2 ++ o ++ 0#1) =
      some ⟨0xFE0E, 0b1001010#7 ++ 0#5 ++ 0b11#2 ++ o ++ 0#1, fun w w1 => g (absK22 w w1)⟩) :
    DecodesTo (encAbs22 o k) (g k) := by
  obtain ⟨hw, hk⟩ := encAbs22_eq_iff.1 (Eq.refl (encAbs22 o k))
  exact decodeWords_eq_some_of_findRow hrow hw.symm (congrArg g hk)

/-- The words of an instruction decode to the canonical instruction they are, format by format. -/
theorem decodesTo_encode (i : Instr) (h : i.wellFormed = true) : DecodesTo (encode i) i.canonical := by
  cases i with
  | add d r | adc d r | sub d r | sbc d r | and d r | or d r | eor d r | tst d | clr d | mul d r | cpse d r
    | cp d r | cpc d r | mov d r | lsl d | rol d => exact decodesTo_encRdRr rfl
  | adiw d k | sbiw d k => exact decodesTo_encPairK6 h rfl
  | subi d k | sbci d k | andi d k | ori d k | sbr d k | cbr d k | ser d | cpi d k | ldi d k =>
    exact decodesTo_encRdK8 h rfl
  | com d | neg d | inc d | dec d | lsr d | ror d | asr d | swap d => exact decodesTo_encRd rfl
  | muls d r =>
    obtain ⟨hd, hr⟩ := Bool.and_eq_true_iff.1 h
    exact decodesTo_encRd4Rr4 hd hr rfl
  | mulsu d r | fmul d r | fmuls d r | fmulsu d r =>
    obtain ⟨hd, hr⟩ := Bool.and_eq_true_iff.1 h
    exact decodesTo_encRd3Rr3 hd hr rfl
  | movw d r =>
    obtain ⟨hd, hr⟩ := Bool.and_eq_true_iff.1 h
    exact decodesTo_encPairPair hd hr rfl
  | rjmp k | rcall k => exact decodesTo_encRel12 rfl
  | jmp k | call k => exact decodesTo_encAbs22 rfl
  | sbrc r b | sbrs r b | bst r b | bld d b => exact decodesTo_encRegBit rfl
  | sbic a b | sbis a b | sbi a b | cbi a b => exact decodesTo_encIOBit rfl
  | brbs f k | brbc f k | breq k | brne k | brcs k | brcc k | brsh k | brlo k | brmi k | brpl k | brge k | brlt k
    | brhs k | brhc k | brts k | brtc k | brvs k | brvc k | brie k | brid k => exact decodesTo_encBr rfl
  | ldX d | ldXInc d | ldXDec d | ldYInc d | ldYDec d | ldZInc d | ldZDec d | stX r | stXInc r | stXDec r | stYInc r
    | stYDec r | stZInc r | stZDec r | lpmZ d | lpmZInc d | push r | pop d => exact decodesTo_encLdSt rfl
  | ldY d | lddY d q | ldZ d | lddZ d q => exact decodesTo_encLddStd rfl
  | stY r | stdY q r => exact decodesTo_encLddStd (g := fun d q => .stdY q d) rfl
  | stZ r | stdZ q r => exact decodesTo_encLddStd (g := fun d q => .stdZ q d) rfl
  | lds d k => exact decodesTo_encLdSt2 rfl
  | sts k r => exact decodesTo_encLdSt2 (g := fun d k => .sts k d) rfl
  | inp d a => exact decodesTo_encIO rfl
  | out a r => exact decodesTo_encIO (g := fun d a => .out a d) rfl
  | bset f | bclr f | sec | clc | sen | cln | sez | clz | sei | cli | ses | cls | sev | clv | setT | clt | seh | clh =>
    exact decodesTo_encSregBit rfl
  | ijmp | icall | ret | reti | lpm | spm | nop | sleep | wdr | brk => rfl

end

end Sys2Proof
end

section
/-!
PROOFS (30_encoding.md R81, R100 to R103, R108, R109; 60_exceptions.md R311, R340). Decoding and encoding are inverse to
each other, on words and on bytes; and what the decoder says of the bytes at the pc is what a step runs.
-/

namespace Sys2Proof

/-! ### Words -/

/-- What two words decode to has these words, or the first alone. -/
theorem isCodedAs_of_decodeWords {w w1 : Word} {i : Instr} (h : decodeWords w w1 = some i) :
    i.IsCodedAs (if isTwoWord w then [w, w1] else [w]) := by
  obtain ⟨row, hrow, hw, rfl⟩ := decodeWords_eq_some_iff.1 h
  rw [isTwoWord_of_contains hrow hw]
  exact rows_rebuild row hrow w w1 hw

theorem length_encode_eq_two_iff (i : Instr) : (encode i).length = 2 ↔
    (∃ d k, i = .lds d k) ∨ (∃ k r, i = .sts k r) ∨ (∃ k, i = .jmp k) ∨ (∃ k, i = .call k) := by
  cases i <;> simp [encode, Encode.encAbs22]

/-- Settles O2: the row of the first word rebuilds its words, and two words are the encoding of LDS, STS, JMP and CALL
only. -/
theorem encodeOfDecode : Obligations.EncodeOfDecode := by
  intro w0 w1 i h
  obtain ⟨hwf, hcanonical, hencode⟩ := isCodedAs_of_decodeWords h
  refine ⟨hwf, hcanonical, hencode, ?_⟩
  rw [← length_encode_eq_two_iff, hencode]
  cases isTwoWord w0 <;> simp

/-- The rows of R103 have the words of their expansions (30_encoding.md R103). -/
theorem encode_canonical (i : Instr) : encode i.canonical = encode i := by
  cases i <;> rfl

/-- The second word does not matter to a one-word instruction (30_encoding.md R102). -/
theorem decodeWords_of_oneWord {w : Word} (hone : isTwoWord w = false) (w1 : Word) :
    decodeWords w w1 = decodeWords w 0 := by
  cases h : decodeWords w w1 with
  | none => exact (decodeWords_eq_none_iff.2 (decodeWords_eq_none_iff.1 h)).symm
  | some i =>
    obtain ⟨hwf, hcanonical, hencode⟩ := isCodedAs_of_decodeWords h
    have hdecodes := decodesTo_encode i hwf
    rw [hencode, hcanonical, hone] at hdecodes
    exact hdecodes.symm

/-! ### Bytes -/

theorem decode_oneWord {w : Word} {i : Instr} (hone : isTwoWord w = false) (h : decodeWords w 0 = some i)
    (rest : List Byte) : decode (wordBytes [w] ++ rest) = .ok (i, rest) := by
  simp only [wordBytes, List.cons_append, List.nil_append, decode, Machine.State.ofBytes_high_low, hone, h]

theorem decode_twoWords {w w1 : Word} {i : Instr} (htwo : isTwoWord w = true) (h : decodeWords w w1 = some i)
    (rest : List Byte) : decode (wordBytes [w, w1] ++ rest) = .ok (i, rest) := by
  simp only [wordBytes, List.cons_append, List.nil_append, decode, Machine.State.ofBytes_high_low, htwo, h]

/-- Settles O1: the words of an instruction decode to the canonical instruction, which has those words, so the decoder
takes their bytes and no more. -/
theorem decodeOfEncode : Obligations.DecodeOfEncode := by
  intro i rest hwf
  have hdecodes := decodesTo_encode i hwf
  have hencode := (isCodedAs_of_decodeWords hdecodes).encode_eq
  rw [encode_canonical] at hencode
  rw [hencode]
  cases htwo : isTwoWord ((encode i).headD 0) with
  | false =>
    rw [DecodesTo, decodeWords_of_oneWord htwo] at hdecodes
    exact decode_oneWord htwo hdecodes rest
  | true => exact decode_twoWords htwo hdecodes rest

/-- Settles O5, word by word. -/
theorem decodedWords : Obligations.DecodedWords := by
  refine ⟨?_, ?_, ?_, ?_, ?_, ?_, ?_, ?_, ?_⟩ <;> decide

/-- Four bytes whose first word is of a row decode to its instruction, whatever follows. -/
theorem decode_fourBytes_of_some {lo0 hi0 lo1 hi1 : Byte} {i : Instr}
    (h : decodeWords (ofBytes hi0 lo0) (ofBytes hi1 lo1) = some i) :
    decode [lo0, hi0, lo1, hi1] = .ok (i, if isTwoWord (ofBytes hi0 lo0) then [] else [lo1, hi1]) := by
  cases htwo : isTwoWord (ofBytes hi0 lo0) with
  | false =>
    rw [decodeWords_of_oneWord htwo] at h
    simp only [decode, htwo, h, Bool.false_eq_true, if_false]
  | true => simp only [decode, htwo, h, if_true]

theorem decode_fourBytes_of_none {lo0 hi0 lo1 hi1 : Byte}
    (h : decodeWords (ofBytes hi0 lo0) (ofBytes hi1 lo1) = none) :
    decode [lo0, hi0, lo1, hi1] = .error (.reserved (ofBytes hi0 lo0)) := by
  cases htwo : isTwoWord (ofBytes hi0 lo0) with
  | false =>
    rw [decodeWords_of_oneWord htwo] at h
    simp only [decode, htwo, h]
  | true => simp only [decode, htwo, h]

namespace Machine

/-! ### The step (60_exceptions.md R340) -/

theorem fetch_of_decode_ok {s : State} {i : Instr} {rest : List Byte} (h : decode s.fetchedBytes = .ok (i, rest)) :
    fetch s = .ok i := by
  cases hwords : decodeWords (s.progWord s.pc) (s.progWord (s.pc + 1)) with
  | none => cases h.symm.trans (decode_fourBytes_of_none hwords)
  | some j =>
    cases h.symm.trans (decode_fourBytes_of_some hwords)
    simp only [fetch_eq, hwords]

theorem fetch_of_decode_reserved {s : State} {w : Word} (h : decode s.fetchedBytes = .error (.reserved w)) :
    fetch s = .error (.illegalInstruction w s.pc) := by
  cases hwords : decodeWords (s.progWord s.pc) (s.progWord (s.pc + 1)) with
  | none =>
    have herror : decode s.fetchedBytes = .error (.reserved (s.progWord s.pc)) := decode_fourBytes_of_none hwords
    cases h.symm.trans herror
    simp only [fetch_eq, hwords]
  | some j => cases h.symm.trans (decode_fourBytes_of_some hwords)

theorem runInstr_of_fetch_ok {s : State} {i : Instr} (h : fetch s = .ok i) : runInstr s = execCounted i s := by
  simp only [runInstr, h]
  rfl

theorem runInstr_of_fetch_error {s : State} {f : Fault} (h : fetch s = .error f) : runInstr s = .fault f := by
  simp only [runInstr, h]

/-- Settles O13: the bytes at the pc decode to the instruction fetched, which is well-formed as every decoded one. -/
theorem stepRunsDecoded : Obligations.StepRunsDecoded := by
  intro s i rest u hdue hawake hdecode
  have hfetch := fetch_of_decode_ok hdecode
  refine ⟨(isCodedAs_of_decodeWords (fetch_ok hfetch)).wellFormed, ?_⟩
  exact (cpuStep_awake hdue hawake).trans (runInstr_of_fetch_ok hfetch)

/-- Settles O14: the same fetch, of a word of no row. -/
theorem reservedWordFaults : Obligations.ReservedWordFaults := by
  intro s w u hdue hawake hdecode
  exact (cpuStep_awake hdue hawake).trans (runInstr_of_fetch_error (fetch_of_decode_reserved hdecode))

end Machine

end Sys2Proof
end

section
/-!
PROOFS (30_encoding.md R103; 41_branch.md R163). The aliases have the meaning of their expansions, and the skips.
-/

namespace Sys2Proof.Machine

/-! ### Aliases (30_encoding.md R103) -/

/-- TST computes `Rd AND Rd`, which is Rd (40_arithmetic_logic.md R145). -/
theorem exec_tst (d : Reg) (s : State) : exec (.tst d) s = exec (.and d d) s := by
  change execTst d s = execAnd d d s
  rw [execTst, execAnd, BitVec.and_self]

/-- `Rd XOR Rd` is zero, with the flags that CLR names (40_arithmetic_logic.md R146). -/
theorem exec_clr (d : Reg) (s : State) : exec (.clr d) s = exec (.eor d d) s := by
  change execClr d s = execEor d d s
  rw [execClr, execEor, BitVec.xor_self]
  rfl

/-- The complement of CBR's mask is the constant of its ANDI (40_arithmetic_logic.md R142). -/
theorem exec_cbr (d : Reg) (k : Byte) (s : State) : exec (.cbr d k) s = exec (.andi d (~~~k)) s := by
  change execCbr d k s = execAndi d (~~~k) s
  rw [execCbr, execAndi, ← BitVec.allOnes_sub_eq_not]
  rfl

/-- A shift left is a doubling (43_bit_and_bit_test.md R264). -/
theorem exec_lsl (d : Reg) (s : State) : exec (.lsl d) s = exec (.add d d) s := by
  change execLsl d s = execAdd d d s
  rw [execLsl, execAdd, ← BitVec.mul_two]
  exact congrArg (endReg d · _ s) (BitVec.shiftLeft_eq_mul_twoPow (s.reg d) 1)

/-- Shifting a bit in from the right doubles the byte and adds the bit. -/
theorem shiftIn_eq_add (a : Byte) (c : Bool) : (a.extractLsb' 0 7 ++ BitVec.ofBool c : Byte) = a + a + bit8 c := by
  refine BitVec.eq_of_toNat_eq ?_
  rw [BitVec.toNat_append, ← Nat.shiftLeft_add_eq_or_of_lt (BitVec.ofBool c).isLt, Nat.shiftLeft_eq, BitVec.toNat_add,
    BitVec.toNat_add, BitVec.extractLsb'_toNat]
  cases c <;> simp [bit8] <;> omega

/-- ROL adds the register and the carry to itself (43_bit_and_bit_test.md R266). -/
theorem exec_rol (d : Reg) (s : State) : exec (.rol d) s = exec (.adc d d) s := by
  change execRol d s = execAdc d d s
  rw [execRol, execAdc, shiftIn_eq_add]

/-- A displacement of zero is none (42_data_transfer.md R220, R224). -/
theorem State.displaced_zero (s : State) (p : Pointer) : s.displaced p 0 = s.ptr p := BitVec.add_zero (s.ptr p)

/-- Where a flag write does not set I from 0, it is a plain write of SREG (60_exceptions.md R319). -/
theorem State.writeFlag_eq_setSreg {s : State} {f : BitPos} {x : Bool} (h : (!s.sreg.i && (s.sreg.set f x).i) = false) :
    s.writeFlag f x = s.setSreg (s.sreg.set f x) := by
  rw [State.writeFlag, State.writeSreg, h, Bool.or_false]
  rfl

theorem exec_bset_eq_endFlags {f : BitPos} {s : State} (h : (!s.sreg.i && (s.sreg.set f true).i) = false) :
    exec (.bset f) s = endFlags (s.sreg.set f true) s :=
  congrArg (fun t : State => Host.Outcome.next (t.advance 1)) (State.writeFlag_eq_setSreg h)

theorem exec_bclr_eq_endFlags {f : BitPos} {s : State} (h : (!s.sreg.i && (s.sreg.set f false).i) = false) :
    exec (.bclr f) s = endFlags (s.sreg.set f false) s :=
  congrArg (fun t : State => Host.Outcome.next (t.advance 1)) (State.writeFlag_eq_setSreg h)

/-- Settles O6: a branch or SEI is its expansion with the flag named, a flag other than I is set and cleared without
delaying interrupts, and the register forms and displacements are computed above. -/
theorem aliasMeaning : Obligations.AliasMeaning := by
  intro i s
  cases i with
  | tst d => exact exec_tst d s
  | clr d => exact exec_clr d s
  | cbr d k => exact exec_cbr d k s
  | lsl d => exact exec_lsl d s
  | rol d => exact exec_rol d s
  | ldY d | ldZ d => exact congrArg (load d · 1 s) (s.displaced_zero _).symm
  | stY r | stZ r => exact congrArg (store · (s.reg r) 1 s) (s.displaced_zero _).symm
  | sec | sen | sez | ses | sev | setT | seh =>
    refine Eq.trans ?_ (exec_bset_eq_endFlags ?_).symm
    · rfl
    · exact Bool.not_and_self s.sreg.i
  | clc | cln | clz | cls | clv | clt | clh =>
    refine Eq.trans ?_ (exec_bclr_eq_endFlags ?_).symm
    · rfl
    · exact Bool.not_and_self s.sreg.i
  | cli =>
    refine Eq.trans ?_ (exec_bclr_eq_endFlags ?_).symm
    · rfl
    · exact Bool.and_false !s.sreg.i
  | _ => rfl

/-! ### CPSE, SBRC, SBRS, SBIC, SBIS (41_branch.md R163, R173, R177 to R180) -/

theorem skip_eq_skipTarget (c : Bool) (s : State) : skip c s = s.setPc (skipTarget s c) := by
  unfold skip skipTarget wordCount
  split
  · split <;> rfl
  · rfl

/-- SBIC and SBIS read the port once and skip as the bit they read says. -/
theorem skipOnIO_eq_skipTarget (a : BitVec 5) (b : BitPos) (x : Bool) (s : State) :
    skipOnIO a b x s = .next ((s.deviceAfterRead (ioAddr5 s.cfg a)).setPc
      (skipTarget s ((s.deviceByte (ioAddr5 s.cfg a)).getLsbD b == x))) := by
  rw [skipOnIO_eq, skip_eq_skipTarget]
  rfl

/-- Settles O48, condition by condition. -/
theorem skipResult : Obligations.SkipResult := by
  intro d r b a s port
  refine ⟨?_, ?_, ?_, ?_, ?_⟩
  · exact congrArg _ (skip_eq_skipTarget _ s)
  · exact congrArg _ (skip_eq_skipTarget _ s)
  · exact congrArg _ (skip_eq_skipTarget _ s)
  · have h := skipOnIO_eq_skipTarget a b false s
    rw [beq_false] at h
    exact h
  · have h := skipOnIO_eq_skipTarget a b true s
    rw [beq_true] at h
    exact h

end Sys2Proof.Machine
end

section
/-!
PROOFS (40_arithmetic_logic.md to 44_mcu_control.md, Flags column). The flag frame of every instruction: SREG is changed
by a store to its own address, by the flag functions on the flags of the row, and by nothing else.
-/

namespace Sys2Proof.Machine

/-! ### Operations that leave SREG alone -/

section
variable {a : Word} {v : Byte} {s u : State}

theorem memRead_sreg (h : memRead a s = .ok (v, u)) : u.sreg = s.sreg := by
  obtain rfl | rfl := memRead_state h <;> rfl

/-- A store changes SREG only at SREG's address (20_memory.md R53). -/
theorem memWrite_sreg (h : memWrite a v s = .ok u) (ha : a ≠ 0x5F) : u.sreg = s.sreg := by
  obtain ⟨_, rfl⟩ | ⟨-, rfl⟩ | ⟨-, rfl⟩ | ⟨hsreg, -⟩ | ⟨-, -, rfl⟩ | ⟨-, -, rfl⟩ := memWrite_cases h
  case inr.inr.inr.inl => exact absurd hsreg ha
  all_goals rfl

theorem push8_sreg (h : push8 v s = .ok u) (ha : s.stackPtr ≠ 0x5F) : u.sreg = s.sreg := by
  obtain ⟨w, hw, rfl⟩ := push8_cases h
  rw [State.setSp_sreg, memWrite_sreg hw ha]

theorem pop8_sreg (h : pop8 s = .ok (v, u)) : u.sreg = s.sreg := by
  rw [pop8_eq] at h
  rw [memRead_sreg h, State.setSp_sreg]

theorem popPC_sreg {b : ProgAddr} (h : popPC s = .ok (b, u)) : u.sreg = s.sreg := by
  obtain ⟨_, w, _, h1, h2, -⟩ := popPC_cases h
  exact (pop8_sreg h2).trans (pop8_sreg h1)

end

/-! ### Operations on one flag -/

theorem Sreg.set_get (r : Sreg) (f g : BitPos) (x : Bool) : (r.set f x).get g = if g = f then x else r.get g := by
  fin_cases f <;> fin_cases g <;> rfl

theorem Sreg.set_get_ne (r : Sreg) {f g : BitPos} (x : Bool) (h : g ≠ f) : (r.set f x).get g = r.get g :=
  (r.set_get f g x).trans (if_neg h)

/-! ### Every instruction -/

/-- A flag outside the row's list is kept, unless the instruction stores to SREG's address. -/
theorem Did.flag_kept {i : Instr} {s t : State} (hdid : Did i s t) (hstored : 0x5F ∉ storedAddrs i s) {f : BitPos}
    (hf : f ∉ flagsListed i) : t.sreg.get f = s.sreg.get f := by
  have hne {a : Word} (ha : a ∈ storedAddrs i s) : a ≠ 0x5F := fun e => hstored (e ▸ ha)
  cases hdid with
  | endReg d v r e _ hlisted | endPair d v r e _ _ hlisted | endFlags r e hlisted =>
    subst e
    exact hlisted f hf
  | writeFlag g x e hg =>
    subst e
    exact s.sreg.set_get_ne x (fun e => hf (e ▸ hg))
  | pc a e | skipIO a b e | modIO a v e | lpmInc d v e | sleep b e | wdr e =>
    subst e
    rfl
  | load d a n v u h e | loadInc p d v u h e | loadDec p d v u h e =>
    subst e
    simp [memRead_sreg h]
  | store a v n u h e ha | storeInc p v u h e ha | storeDec p v u h e ha =>
    subst e
    simp [memWrite_sreg h (hne ha)]
  | call r a u w h1 h2 e ha =>
    subst e
    have hfst : s.stackPtr ≠ 0x5F := hne (by simp [ha])
    have hsnd : u.stackPtr ≠ 0x5F := hne (by simp [ha])
    simp [push8_sreg h2 hsnd, push8_sreg h1 hfst]
  | ret a u h e =>
    subst e
    simp [popPC_sreg h]
  | reti a u h e hi =>
    subst e hi
    have hf7 : f ≠ 7 := mt List.mem_singleton.2 hf
    have hkept : (u.sreg.set 7 true).get f = u.sreg.get f := u.sreg.set_get_ne true hf7
    exact hkept.trans (by rw [popPC_sreg h])
  | push v u h e ha =>
    subst e
    simp [push8_sreg h (hne ha)]
  | pop d v u h e =>
    subst e
    simp [pop8_sreg h]

/-- Settles O31, along everything an instruction can do. -/
theorem flagFrame : Obligations.FlagFrame :=
  fun _ _ _ h hstored _ hf => (exec_did h).flag_kept hstored hf

end Sys2Proof.Machine
end

section
/-!
PROOFS (40_arithmetic_logic.md R121, R122). AddFlags and SubFlags in arithmetic terms: what a flag computed from bits of
the operands and the result says of the numbers. Carry and borrow are those of a full adder, of any width and out of any
bit.
-/

namespace Sys2Proof.Machine

/-! ### Bits and numbers -/

theorem bit8_toNat (b : Bool) : (bit8 b).toNat = b.toNat := by cases b <;> rfl

theorem toNat_inverted (b : Bool) : (!b).toNat = 1 - b.toNat := by cases b <;> rfl

/-- A comparison of bit vectors is one of their numbers. -/
theorem beq_eq_decide_toNat {w : Nat} (x y : BitVec w) : (x == y) = decide (x.toNat = y.toNat) := by
  rw [beq_eq_decide, decide_eq_decide, BitVec.toNat_inj]

theorem beq_eq_decide_of_iff {w : Nat} {x y : BitVec w} {p : Prop} [Decidable p] (h : x.toNat = y.toNat ↔ p) :
    (x == y) = decide p := by
  rw [beq_eq_decide_toNat, decide_eq_decide]
  exact h

/-- S is N xor V: set where exactly one of them is. -/
theorem xor_decide_of_iff {n v p : Prop} [Decidable n] [Decidable v] [Decidable p] (h : p ↔ ¬(n ↔ v)) :
    (decide n ^^ decide v) = decide p := by
  rw [decide_eq_decide.2 h, decide_not, Bool.decide_iff_dist]
  rfl

theorem getLsbD_seven (a : Byte) : a.getLsbD 7 = decide (128 ≤ a.toNat) := a.getLsbD_last

theorem getLsbD_fifteen (a : Word) : a.getLsbD 15 = decide (32768 ≤ a.toNat) := a.getLsbD_last

/-! ### Carry and borrow (40_arithmetic_logic.md R121, R122) -/

section
variable {w : Nat} (a b : BitVec w) (c : Bool) {i : Nat}

/-- The carry out of bit `i` of a sum, as the rule computes it from bit `i` of the operands and of the result: two of the
three bits that were added are set. -/
theorem carry_of_sum_bits (h : i < w) :
    ((a.getLsbD i && b.getLsbD i) || (b.getLsbD i && !(a + b + (BitVec.ofBool c).setWidth w).getLsbD i) ||
      (!(a + b + (BitVec.ofBool c).setWidth w).getLsbD i && a.getLsbD i)) = BitVec.carry (i + 1) a b c := by
  rw [BitVec.getLsbD_add_add_bool h, BitVec.carry_succ]
  cases a.getLsbD i <;> cases b.getLsbD i <;> cases BitVec.carry i a b c <;> rfl

/-- A subtraction with borrow is an addition of the complement, with the borrow inverted as carry. -/
theorem sub_sub_eq_add_not :
    a - b - (BitVec.ofBool c).setWidth w = a + ~~~b + (BitVec.ofBool !c).setWidth w := by
  have hone : (1#1).setWidth w = 1#w := BitVec.eq_of_toNat_eq (by simp)
  rw [BitVec.not_eq_neg_add]
  cases c
  · change a - b - (0#1).setWidth w = a + (-b - 1#w) + (1#1).setWidth w
    rw [BitVec.setWidth_zero, hone]
    abel
  · change a - b - (1#1).setWidth w = a + (-b - 1#w) + (0#1).setWidth w
    rw [BitVec.setWidth_zero, hone]
    abel

/-- The borrow out of bit `i` of a difference, as the rule computes it from bit `i` of the operands and of the result. -/
theorem borrow_of_difference_bits (h : i < w) :
    ((!a.getLsbD i && b.getLsbD i) || (b.getLsbD i && (a - b - (BitVec.ofBool c).setWidth w).getLsbD i) ||
      ((a - b - (BitVec.ofBool c).setWidth w).getLsbD i && !a.getLsbD i)) = !BitVec.carry (i + 1) a (~~~b) !c := by
  rw [sub_sub_eq_add_not, BitVec.getLsbD_add_add_bool h, BitVec.carry_succ, BitVec.getLsbD_not,
    decide_eq_true h, Bool.true_and]
  cases a.getLsbD i <;> cases b.getLsbD i <;> cases BitVec.carry i a (~~~b) !c <;> rfl

end

/-! ### AddFlags (40_arithmetic_logic.md R121) -/

theorem sum_toNat (a b : Byte) (cin : Bool) : (a + b + bit8 cin).toNat = (a.toNat + b.toNat + cin.toNat) % 256 := by
  rw [BitVec.toNat_add, BitVec.toNat_add, bit8_toNat, Nat.mod_add_mod]

theorem carry_eight (a b : Byte) (cin : Bool) :
    BitVec.carry 8 a b cin = decide (255 < a.toNat + b.toNat + cin.toNat) := by
  rw [BitVec.carry, Nat.mod_eq_of_lt a.isLt, Nat.mod_eq_of_lt b.isLt]
  rfl

theorem carry_four (a b : Byte) (cin : Bool) :
    BitVec.carry 4 a b cin = decide (15 < a.toNat % 16 + b.toNat % 16 + cin.toNat) := rfl

/-- Signed overflow of a sum, from the signs of the operands and of the result. -/
theorem overflow_of_sum_signs (a b : Byte) (cin : Bool) :
    ((a.getLsbD 7 && b.getLsbD 7 && !(a + b + bit8 cin).getLsbD 7) ||
      (!a.getLsbD 7 && !b.getLsbD 7 && (a + b + bit8 cin).getLsbD 7)) =
      decide (a.toInt + b.toInt + cin.toNat < -128 ∨ 127 < a.toInt + b.toInt + cin.toNat) := by
  have ha := a.isLt
  have hb := b.isLt
  have hc := cin.toNat_lt
  rw [Bool.eq_iff_iff, BitVec.toInt_eq_toNat_cond, BitVec.toInt_eq_toNat_cond]
  simp only [getLsbD_seven, sum_toNat, Bool.or_eq_true, Bool.and_eq_true, Bool.not_eq_true', decide_eq_true_eq,
    decide_eq_false_iff_not]
  omega

/-- The flags of an addition are those of its arithmetic definition. -/
theorem addFlags_rule (a b : Byte) (cin : Bool) (r : Sreg) : AddRule a b cin r (addFlags a b cin r) where
  c := (carry_of_sum_bits a b cin (by decide)).trans (carry_eight a b cin)
  h := (carry_of_sum_bits a b cin (by decide)).trans (carry_four a b cin)
  v := overflow_of_sum_signs a b cin
  n := by rw [← sum_toNat]; exact getLsbD_seven _
  z := by rw [← sum_toNat]; exact beq_eq_decide_toNat _ _
  s := rfl
  t := rfl
  i := rfl

theorem sum_eq_ofNat (a b : Byte) (cin : Bool) :
    a + b + bit8 cin = BitVec.ofNat 8 (a.toNat + b.toNat + cin.toNat) :=
  BitVec.eq_of_toNat_eq (sum_toNat a b cin)

/-- Settles O24: the Boolean formulas are the definition of the flags, with the sum written as a number. -/
theorem addFlagsRule : Obligations.AddFlagsRule := by
  intro a b cin r res r'
  have hres : res = a + b + bit8 cin := (sum_eq_ofNat a b cin).symm
  rw [hres]
  exact ⟨⟨rfl, rfl, rfl, rfl, beq_eq_decide _ _, rfl⟩, addFlags_rule a b cin r⟩

/-! ### SubFlags (40_arithmetic_logic.md R122) -/

theorem difference_toNat (a b : Byte) (cin : Bool) :
    (a - b - bit8 cin).toNat = (256 + a.toNat - (b.toNat + cin.toNat)) % 256 := by
  have ha := a.isLt
  have hb := b.isLt
  have hc := cin.toNat_lt
  rw [BitVec.toNat_sub, BitVec.toNat_sub, bit8_toNat]
  omega

theorem not_carry_eight (a b : Byte) (cin : Bool) :
    (!BitVec.carry 8 a (~~~b) !cin) = decide (a.toNat < b.toNat + cin.toNat) := by
  have hb := b.isLt
  have hc := cin.toNat_le
  rw [carry_eight, ← decide_not, decide_eq_decide, BitVec.toNat_not, toNat_inverted]
  omega

theorem not_carry_four (a b : Byte) (cin : Bool) :
    (!BitVec.carry 4 a (~~~b) !cin) = decide (a.toNat % 16 < b.toNat % 16 + cin.toNat) := by
  have hb := b.isLt
  have hc := cin.toNat_le
  rw [carry_four, ← decide_not, decide_eq_decide, BitVec.toNat_not, toNat_inverted]
  omega

/-- Signed overflow of a difference, from the signs of the operands and of the result. -/
theorem overflow_of_difference_signs (a b : Byte) (cin : Bool) :
    ((a.getLsbD 7 && !b.getLsbD 7 && !(a - b - bit8 cin).getLsbD 7) ||
      (!a.getLsbD 7 && b.getLsbD 7 && (a - b - bit8 cin).getLsbD 7)) =
      decide (a.toInt - b.toInt - cin.toNat < -128 ∨ 127 < a.toInt - b.toInt - cin.toNat) := by
  have ha := a.isLt
  have hb := b.isLt
  have hc := cin.toNat_lt
  rw [Bool.eq_iff_iff, BitVec.toInt_eq_toNat_cond, BitVec.toInt_eq_toNat_cond]
  simp only [getLsbD_seven, difference_toNat, Bool.or_eq_true, Bool.and_eq_true, Bool.not_eq_true', decide_eq_true_eq,
    decide_eq_false_iff_not]
  omega

/-- The flags of a subtraction are those of its arithmetic definition. -/
theorem subFlags_rule (a b : Byte) (cin keepZ : Bool) (r : Sreg) :
    SubRule a b cin keepZ r (subFlags a b cin keepZ r) where
  c := (borrow_of_difference_bits a b cin (by decide)).trans (not_carry_eight a b cin)
  h := (borrow_of_difference_bits a b cin (by decide)).trans (not_carry_four a b cin)
  v := overflow_of_difference_signs a b cin
  n := by rw [← difference_toNat]; exact getLsbD_seven _
  z := by
    rw [← difference_toNat, ← show _ = decide ((a - b - bit8 cin).toNat = 0) from beq_eq_decide_toNat _ 0]
    cases keepZ
    · exact (Bool.and_true _).symm
    · rfl
  s := rfl
  t := rfl
  i := rfl

theorem difference_eq_ofNat (a b : Byte) (cin : Bool) :
    a - b - bit8 cin = BitVec.ofNat 8 (256 + a.toNat - (b.toNat + cin.toNat)) :=
  BitVec.eq_of_toNat_eq (difference_toNat a b cin)

/-- Settles O25: the Boolean formulas are the definition of the flags, with the difference written as a number. -/
theorem subFlagsRule : Obligations.SubFlagsRule := by
  intro a b cin keepZ r res r'
  have hres : res = a - b - bit8 cin := (difference_eq_ofNat a b cin).symm
  have hz : (a - b - bit8 cin == 0) = decide (a - b - bit8 cin = 0) := beq_eq_decide _ _
  rw [hres]
  refine ⟨⟨rfl, rfl, rfl, rfl, ?_, rfl⟩, subFlags_rule a b cin keepZ r⟩
  rw [← hz]
  rfl

end Sys2Proof.Machine
end

section
/-!
PROOFS (40_arithmetic_logic.md R126 to R153; 41_branch.md R174 to R176; 42_data_transfer.md R214 to R216;
43_bit_and_bit_test.md R264, R266, R269). Result, flags and frame of the instructions that end in `endReg`, `endPair` or
`endFlags`. One lemma for each relation says when such an ending is that effect; an instruction's proof is the value it
ends with.
-/

namespace Sys2Proof.Machine

theorem endReg_reg (s : State) (d : Reg) (v : Byte) (r : Sreg) :
    (((s.setReg d v).setSreg r).advance 1).reg d = v := by
  rw [State.advance_reg, State.setSreg_reg, State.setReg_reg_self]

theorem endPair_pair (s : State) (d : Reg) (v : Word) (r : Sreg) :
    (((s.setPair d v).setSreg r).advance 1).pair d = v := by
  rw [State.advance_pair, State.setSreg_pair, State.setPair_pair_self]

theorem endPair_regFrame (s : State) (d : Reg) (v : Word) (r : Sreg) :
    State.RegFrame [d, d + 1] s (((s.setPair d v).setSreg r).advance 1) :=
  regFrame_of_regs s fun _ hr =>
    have ⟨hlow, hhigh⟩ := not_or.1 (mt List.mem_pair.2 hr)
    s.setPair_reg_ne v hlow hhigh

/-! ### Additions (R126, R127, R264, R266) -/

theorem isAddition_of_endReg {i : Instr} {s : State} {d : Reg} {a b v : Byte} {cin : Bool}
    (h : exec i s = endReg d v (addFlags a b cin s.sreg) s) (hv : v = a + b + bit8 cin) :
    IsAddition i s d a b cin :=
  ⟨_, h, by rw [endReg_reg, hv, sum_toNat],
    addFlags_rule a b cin s.sreg, rfl, endReg_regFrame s d v _⟩

theorem isAddition_add (d r : Reg) (s : State) : IsAddition (.add d r) s d (s.reg d) (s.reg r) false :=
  isAddition_of_endReg rfl (BitVec.add_zero _).symm

theorem isAddition_adc (d r : Reg) (s : State) : IsAddition (.adc d r) s d (s.reg d) (s.reg r) s.sreg.c :=
  isAddition_of_endReg rfl rfl

/-- What an instruction with the same meaning does, an instruction does. -/
theorem IsAddition.of_exec_eq {i j : Instr} {s : State} {d : Reg} {a b : Byte} {cin : Bool}
    (h : IsAddition j s d a b cin) (e : exec i s = exec j s) : IsAddition i s d a b cin := by
  rwa [IsAddition, e]

/-- Settles O35: LSL and ROL add the register to itself. -/
theorem additionResult : Obligations.AdditionResult := fun d r s =>
  ⟨isAddition_add d r s, isAddition_adc d r s, (isAddition_add d d s).of_exec_eq (exec_lsl d s),
    (isAddition_adc d d s).of_exec_eq (exec_rol d s)⟩

/-! ### Subtractions and comparisons (R129 to R132, R140, R174 to R176) -/

theorem isSubtraction_of_endReg {i : Instr} {s : State} {d : Reg} {a b v : Byte} {cin keepZ : Bool}
    (h : exec i s = endReg d v (subFlags a b cin keepZ s.sreg) s) (hv : v = a - b - bit8 cin) :
    IsSubtraction i s d a b cin keepZ :=
  ⟨_, h, by rw [endReg_reg, hv, difference_toNat],
    subFlags_rule a b cin keepZ s.sreg, rfl, endReg_regFrame s d v _⟩

/-- A difference without borrow in. -/
theorem sub_eq_sub_bit8_false (a b : Byte) : a - b = a - b - bit8 false := (BitVec.sub_zero (a - b)).symm

/-- Settles O36, by the difference each ends with. -/
theorem subtractionResult : Obligations.SubtractionResult := fun _ _ _ _ =>
  ⟨isSubtraction_of_endReg rfl (sub_eq_sub_bit8_false _ _), isSubtraction_of_endReg rfl (sub_eq_sub_bit8_false _ _),
    isSubtraction_of_endReg rfl rfl, isSubtraction_of_endReg rfl rfl,
    isSubtraction_of_endReg rfl (sub_eq_sub_bit8_false _ _)⟩

theorem isComparison_of_endFlags {i : Instr} {s : State} {a b : Byte} {cin keepZ : Bool}
    (h : exec i s = endFlags (subFlags a b cin keepZ s.sreg) s) : IsComparison i s a b cin keepZ :=
  ⟨_, h, subFlags_rule a b cin keepZ s.sreg, rfl, regFrame_of_regs s fun _ _ => rfl⟩

/-- Settles O37: a comparison ends with the flags of a subtraction only. -/
theorem comparisonResult : Obligations.ComparisonResult := fun _ _ _ _ =>
  ⟨isComparison_of_endFlags rfl, isComparison_of_endFlags rfl, isComparison_of_endFlags rfl⟩

/-! ### Logic (R134 to R139, R141, R142, R145, R146) -/

/-- The flags of a logic instruction are those of its result (R123). -/
theorem logicFlags_rule (res : Byte) (r : Sreg) : LogicRule res r (logicFlags res r) where
  v := rfl
  n := getLsbD_seven res
  z := beq_eq_decide_toNat res 0
  s := Bool.xor_false _
  c := rfl
  h := rfl
  t := rfl
  i := rfl

theorem isLogic_of_endReg {i : Instr} {s : State} {d : Reg} {v : Byte} {f : Nat → Bool} {r : Sreg}
    (h : exec i s = endReg d v (logicFlags v r) s) (hf : ∀ j < 8, v.getLsbD j = f j) : IsLogic i s d f r := by
  refine ⟨_, h, ?_, ?_, rfl, endReg_regFrame s d v _⟩ <;> rw [endReg_reg]
  · exact hf
  · exact logicFlags_rule v r

/-- Subtracting from 0xFF inverts each bit: COM, and the mask of the bits CBR keeps. -/
theorem getLsbD_complement (a : Byte) {j : Nat} (h : j < 8) : (0xFF#8 - a).getLsbD j = !a.getLsbD j := by
  rw [show (0xFF#8 : Byte) = BitVec.allOnes 8 from rfl, BitVec.allOnes_sub_eq_not,
    BitVec.getLsbD_not, decide_eq_true h, Bool.true_and]

/-- Settles O38, by the bits of the byte each ends with. -/
theorem logicResult : Obligations.LogicResult := by
  intro d r k s
  refine ⟨?and, ?andi, ?or, ?ori, ?eor, ?com, ?sbr, ?cbr, ?tst, ?clr⟩
  case and => exact isLogic_of_endReg rfl fun _ _ => BitVec.getLsbD_and
  case andi => exact isLogic_of_endReg rfl fun _ _ => BitVec.getLsbD_and
  case or => exact isLogic_of_endReg rfl fun _ _ => BitVec.getLsbD_or
  case ori => exact isLogic_of_endReg rfl fun _ _ => BitVec.getLsbD_or
  case eor => exact isLogic_of_endReg rfl fun _ _ => BitVec.getLsbD_xor
  case com => exact isLogic_of_endReg rfl fun _ hj => getLsbD_complement _ hj
  case sbr => exact isLogic_of_endReg rfl fun _ _ => BitVec.getLsbD_or
  case cbr => exact isLogic_of_endReg rfl fun _ hj => by rw [BitVec.getLsbD_and, getLsbD_complement k hj]
  case tst => exact isLogic_of_endReg rfl fun _ _ => rfl
  case clr => exact isLogic_of_endReg (v := 0) rfl fun _ _ => BitVec.getLsbD_zero

/-! ### INC and DEC (R143, R144) -/

theorem incFlags_succ (a : Byte) (r : Sreg) :
    incFlags (a + 1) r = { r with
      z := decide (a.toNat = 255), n := decide (128 ≤ (a + 1).toNat), v := decide (a.toNat = 127)
      s := decide (127 < a.toNat ∧ a.toNat < 255) } := by
  have ha := a.isLt
  have hsucc : (a + 1).toNat = (a.toNat + 1) % 256 := BitVec.toNat_add a 1
  have hz : (a + 1 == 0) = decide (a.toNat = 255) :=
    beq_eq_decide_of_iff (by rw [hsucc, show (0 : Byte).toNat = 0 from rfl]; omega)
  have hv : (a + 1 == 0x80) = decide (a.toNat = 127) :=
    beq_eq_decide_of_iff (by rw [hsucc, show (0x80 : Byte).toNat = 128 from rfl]; omega)
  have hs : (decide (128 ≤ (a + 1).toNat) ^^ decide (a.toNat = 127)) = decide (127 < a.toNat ∧ a.toNat < 255) :=
    xor_decide_of_iff (by rw [hsucc]; omega)
  rw [incFlags, Sreg.withNV, getLsbD_seven, hz, hv, hs]

theorem decFlags_pred (a : Byte) (r : Sreg) :
    decFlags (a - 1) r = { r with
      z := decide (a.toNat = 1), n := decide (128 ≤ (a - 1).toNat), v := decide (a.toNat = 128)
      s := decide (a.toNat = 0 ∨ 128 ≤ a.toNat) } := by
  have ha := a.isLt
  have hpred : (a - 1).toNat = (255 + a.toNat) % 256 := BitVec.toNat_sub a 1
  have hz : (a - 1 == 0) = decide (a.toNat = 1) :=
    beq_eq_decide_of_iff (by rw [hpred, show (0 : Byte).toNat = 0 from rfl]; omega)
  have hv : (a - 1 == 0x7F) = decide (a.toNat = 128) :=
    beq_eq_decide_of_iff (by rw [hpred, show (0x7F : Byte).toNat = 127 from rfl]; omega)
  have hs : (decide (128 ≤ (a - 1).toNat) ^^ decide (a.toNat = 128)) = decide (a.toNat = 0 ∨ 128 ≤ a.toNat) :=
    xor_decide_of_iff (by rw [hpred]; omega)
  rw [decFlags, Sreg.withNV, getLsbD_seven, hz, hv, hs]

/-- Settles O39: the byte and the flags of each are those of its operand as a number. -/
theorem incDecResult : Obligations.IncDecResult := by
  intro d s
  refine ⟨⟨_, rfl, ?_, ?_, rfl, endReg_regFrame s d _ _⟩, ⟨_, rfl, ?_, ?_, rfl, endReg_regFrame s d _ _⟩⟩
  · rw [endReg_reg]
    exact BitVec.toNat_add _ _
  · rw [endReg_reg]
    exact incFlags_succ _ _
  · rw [endReg_reg, BitVec.toNat_sub, Nat.add_comm]
    rfl
  · rw [endReg_reg]
    exact decFlags_pred _ _

/-! ### ADIW and SBIW (R124, R128, R133) -/

section
variable (a : Word) (k : BitVec 6)

theorem wordConstant_toNat : (k.setWidth 16).toNat = k.toNat := by
  rw [BitVec.toNat_setWidth]
  exact Nat.mod_eq_of_lt (by omega)

theorem wordSum_toNat : (a + k.setWidth 16).toNat = (a.toNat + k.toNat) % 65536 := by
  rw [BitVec.toNat_add, wordConstant_toNat]

theorem wordDifference_toNat : (a - k.setWidth 16).toNat = (65536 + a.toNat - k.toNat) % 65536 := by
  rw [BitVec.toNat_sub, wordConstant_toNat]
  congr 1
  omega

end

section
variable {a res : Word} {k : Nat} (hk : k < 64)
include hk

/-- The constant is small, so the signs of operand and result tell carry and overflow apart. -/
theorem adiwFlags_of_toNat (h : res.toNat = (a.toNat + k) % 65536) (r : Sreg) :
    adiwFlags a res r = { r with
      c := decide (65535 < a.toNat + k), z := decide (res.toNat = 0), n := decide (32768 ≤ res.toNat)
      v := decide (32767 < a.toInt + k), s := decide (a.toInt + k < 0) } := by
  have ha := a.isLt
  have hint := a.toInt_eq_toNat_cond
  have hc : (!res.getLsbD 15 && a.getLsbD 15) = decide (65535 < a.toNat + k) := by
    rw [getLsbD_fifteen, getLsbD_fifteen, ← decide_not, ← Bool.decide_and, decide_eq_decide]
    omega
  have hv : (!a.getLsbD 15 && res.getLsbD 15) = decide (32767 < a.toInt + k) := by
    rw [getLsbD_fifteen, getLsbD_fifteen, ← decide_not, ← Bool.decide_and, decide_eq_decide]
    omega
  have hs : (decide (32768 ≤ res.toNat) ^^ decide (32767 < a.toInt + k)) = decide (a.toInt + k < 0) :=
    xor_decide_of_iff (by omega)
  rw [adiwFlags, Sreg.withNV, hc, hv, getLsbD_fifteen, hs, beq_eq_decide_toNat]
  rfl

/-- As for a sum, with the signs the other way round. -/
theorem sbiwFlags_of_toNat (h : res.toNat = (65536 + a.toNat - k) % 65536) (r : Sreg) :
    sbiwFlags a res r = { r with
      c := decide (a.toNat < k), z := decide (res.toNat = 0), n := decide (32768 ≤ res.toNat)
      v := decide (a.toInt - k < -32768), s := decide (a.toInt - k < 0) } := by
  have ha := a.isLt
  have hint := a.toInt_eq_toNat_cond
  have hc : (res.getLsbD 15 && !a.getLsbD 15) = decide (a.toNat < k) := by
    rw [getLsbD_fifteen, getLsbD_fifteen, ← decide_not, ← Bool.decide_and, decide_eq_decide]
    omega
  have hv : (a.getLsbD 15 && !res.getLsbD 15) = decide (a.toInt - k < -32768) := by
    rw [getLsbD_fifteen, getLsbD_fifteen, ← decide_not, ← Bool.decide_and, decide_eq_decide]
    omega
  have hs : (decide (32768 ≤ res.toNat) ^^ decide (a.toInt - k < -32768)) = decide (a.toInt - k < 0) :=
    xor_decide_of_iff (by omega)
  rw [sbiwFlags, Sreg.withNV, hc, hv, getLsbD_fifteen, hs, beq_eq_decide_toNat]
  rfl

end

/-- Settles O40: the pair and the flags of each are those of its operands as numbers. -/
theorem wordArithmeticResult : Obligations.WordArithmeticResult := by
  intro d k s
  have hk : k.toNat < 64 := k.isLt
  refine ⟨⟨_, rfl, ?_, ?_, rfl, endPair_regFrame s d _ _⟩, ⟨_, rfl, ?_, ?_, rfl, endPair_regFrame s d _ _⟩⟩ <;>
    rw [endPair_pair]
  · exact wordSum_toNat _ k
  · exact adiwFlags_of_toNat hk (wordSum_toNat _ k) s.sreg
  · exact wordDifference_toNat _ k
  · exact sbiwFlags_of_toNat hk (wordDifference_toNat _ k) s.sreg

/-! ### Multiplications (R125, R148 to R153) -/

/-- The flags of a multiplication are those of the product and the result as numbers, each modulo 2^16. -/
theorem mulFlags_rule {p res : Word} {x y : Int} (hp : (p.toNat : Int) = x % 65536)
    (hres : (res.toNat : Int) = y % 65536) (r : Sreg) : MulRule x y r (mulFlags p res r) where
  c := by
    rw [← hp]
    exact (getLsbD_fifteen p).trans (decide_eq_decide.2 (by omega))
  z := by
    rw [← hres]
    exact beq_eq_decide_of_iff (by rw [show (0 : Word).toNat = 0 from rfl]; omega)
  n := rfl
  v := rfl
  s := rfl
  h := rfl
  t := rfl
  i := rfl

theorem isMultiply_of_endPair {i : Instr} {s : State} {p res : Word} {x y : Int}
    (h : exec i s = endPair 0 res (mulFlags p res s.sreg) s) (hp : (p.toNat : Int) = x % 65536)
    (hres : (res.toNat : Int) = y % 65536) : IsMultiply i s x y :=
  ⟨_, h, by rwa [endPair_pair], mulFlags_rule hp hres s.sreg, rfl, endPair_regFrame s 0 res _⟩

theorem product_toNat (x y : Int) : ((product x y).toNat : Int) = x * y % 65536 := by
  rw [product, BitVec.toNat_ofInt]
  exact Int.toNat_of_nonneg (Int.emod_nonneg _ (by decide))

/-- The shift doubles the exact product, modulo 2^16 (40_arithmetic_logic.md R151). -/
theorem product_shiftLeft_toNat (x y : Int) : ((product x y <<< 1).toNat : Int) = 2 * (x * y) % 65536 := by
  have hp := product_toNat x y
  rw [BitVec.toNat_shiftLeft, Nat.shiftLeft_eq]
  omega

theorem isMultiply_of_endMul {i : Instr} {s : State} {x y : Int} (h : exec i s = endMul (product x y) s) :
    IsMultiply i s (x * y) (x * y) :=
  isMultiply_of_endPair h (product_toNat x y) (product_toNat x y)

theorem isMultiply_of_endFmul {i : Instr} {s : State} {x y : Int} (h : exec i s = endFmul (product x y) s) :
    IsMultiply i s (x * y) (2 * (x * y)) :=
  isMultiply_of_endPair h (product_toNat x y) (product_shiftLeft_toNat x y)

/-- Settles O41, by the two operands each reads. -/
theorem multiplyResult : Obligations.MultiplyResult := fun _ _ _ =>
  ⟨isMultiply_of_endMul rfl, isMultiply_of_endMul rfl, isMultiply_of_endMul rfl,
    isMultiply_of_endFmul rfl, isMultiply_of_endFmul rfl, isMultiply_of_endFmul rfl⟩

/-! ### Moves (R147, R214 to R216, R269) -/

/-- Exchanged nibbles as a number (43_bit_and_bit_test.md R269). -/
theorem swap_toNat (a : Byte) :
    (a.extractLsb' 0 4 ++ a.extractLsb' 4 4 : Byte).toNat = a.toNat % 16 * 16 + a.toNat / 16 := by
  rw [BitVec.toNat_append, ← Nat.shiftLeft_add_eq_or_of_lt (BitVec.isLt _), Nat.shiftLeft_eq,
    BitVec.extractLsb'_toNat, BitVec.extractLsb'_toNat, Nat.shiftRight_eq_div_pow, Nat.shiftRight_eq_div_pow]
  omega

theorem lowByte_ofBytes (hi lo : Byte) : lowByte (ofBytes hi lo) = lo := BitVec.extractLsb'_append_eq_right

theorem highByte_ofBytes (hi lo : Byte) : highByte (ofBytes hi lo) = hi := BitVec.extractLsb'_append_eq_left

/-- Settles O43: MOVW writes back the bytes of the pair it read before. -/
theorem moveResult : Obligations.MoveResult := by
  intro d r k s
  refine ⟨isMove_of_endReg rfl rfl, isMove_of_endReg rfl rfl, isMove_of_endReg rfl rfl,
    isMove_of_endReg rfl (swap_toNat _), _, rfl, ?_, ?_, rfl, rfl, endPair_regFrame s d _ _⟩
  · rw [State.advance_reg, State.setSreg_reg, State.setPair_reg_low, State.pair, lowByte_ofBytes]
  · rw [State.advance_reg, State.setSreg_reg, State.setPair_reg_high, State.pair, highByte_ofBytes]

end Sys2Proof.Machine
end

section
/-!
PROOFS (41_branch.md). The conditional branches, the calls and the returns. A return address is two bytes on the stack:
what a push and a pop of it do for every SP, and, with room in SRAM, that the pop gives back what the push stored.
-/

namespace Sys2Proof.Machine

/-! ### BRBS, BRBC and their named forms (41_branch.md R164, R181 to R200) -/

/-- An instruction that only moves the pc as `branchIf` does is the branch on that condition. -/
theorem isBranch_of_branchIf {i : Instr} {s : State} {cond : Bool} {k : BitVec 7}
    (h : exec i s = .next (branchIf cond k s)) : IsBranch i s cond k := by
  cases cond with
  | true => exact isJump_of_setPc h (relative_target_toNat s.pc k)
  | false =>
    refine isJump_of_setPc h ?_
    rw [BitVec.toNat_add, Int.natCast_emod, Int.natCast_add]
    rfl

/-- Settles O47: each row is `branchIf` on the flag it names. -/
theorem branchResult : Obligations.BranchResult := by
  intro f k s
  and_intros <;> exact isBranch_of_branchIf rfl

/-! ### The bytes of a return address (41_branch.md R161, R162) -/

theorem returnLow_eq (a : ProgAddr) : a.extractLsb' 0 8 = BitVec.ofNat 8 (a.toNat % 256) := by
  refine BitVec.eq_of_toNat_eq ?_
  rw [BitVec.extractLsb'_toNat, Nat.shiftRight_zero, BitVec.toNat_ofNat]
  exact (Nat.mod_mod _ _).symm

theorem returnHigh_eq (a : ProgAddr) : (a.extractLsb' 8 6).setWidth 8 = BitVec.ofNat 8 (a.toNat / 256) := by
  have := a.isLt
  refine BitVec.eq_of_toNat_eq ?_
  rw [BitVec.toNat_setWidth, BitVec.extractLsb'_toNat, Nat.shiftRight_eq_div_pow, BitVec.toNat_ofNat]
  omega

/-- The two top bits of the popped bytes are dropped. -/
theorem returnAddr_of_popped (hi lo : Byte) : (ofBytes hi lo).setWidth 14 = BitVec.ofNat 14 (hi.toNat * 256 + lo.toNat) := by
  refine BitVec.eq_of_toNat_eq ?_
  rw [BitVec.toNat_setWidth, ofBytes_toNat, BitVec.toNat_ofNat]

/-- Popping the bytes of a return address gives the address. -/
theorem returnAddr_of_bytes (a : ProgAddr) :
    (ofBytes (BitVec.ofNat 8 (a.toNat / 256)) (BitVec.ofNat 8 (a.toNat % 256))).setWidth 14 = a := by
  have := a.isLt
  refine BitVec.eq_of_toNat_eq ?_
  rw [BitVec.toNat_setWidth, ofBytes_toNat, BitVec.toNat_ofNat, BitVec.toNat_ofNat]
  omega

/-! ### Return addresses on the stack, for every SP (41_branch.md R161, R162; 70_reset_and_hazards.md R358) -/

/-- PushPC is a push of the low byte and then of the high byte. -/
theorem pushPC_of_push8 {a : ProgAddr} {s u : State} (h : push8 (BitVec.ofNat 8 (a.toNat % 256)) s = .ok u) :
    pushPC a s = push8 (BitVec.ofNat 8 (a.toNat / 256)) u := by
  rw [pushPC_eq, returnLow_eq, returnHigh_eq, h]

theorem pushPC_of_push8_fault {a : ProgAddr} {s : State} {f : Fault}
    (h : push8 (BitVec.ofNat 8 (a.toNat % 256)) s = .error f) : pushPC a s = .error f := by
  rw [pushPC_eq, returnLow_eq, h]

/-- PopPC is a pop of the high byte and then of the low byte. -/
theorem popPC_of_pop8 {s u w : State} {hi lo : Byte} (h : pop8 s = .ok (hi, u)) (h' : pop8 u = .ok (lo, w)) :
    popPC s = .ok ((ofBytes hi lo).setWidth 14, w) := by
  simp only [popPC_eq, h, h']

theorem popPC_of_pop8_fault {s : State} {f : Fault} (h : pop8 s = .error f) : popPC s = .error f := by
  simp only [popPC_eq, h]

theorem popPC_of_second_pop8_fault {s u : State} {hi : Byte} {f : Fault} (h : pop8 s = .ok (hi, u))
    (h' : pop8 u = .error f) : popPC s = .error f := by
  simp only [popPC_eq, h, h']

/-- What follows from PushPC completing, and the answer where it faults, are together the relation. -/
theorem pushesReturn_of_pushPC {r : Result} {ret : ProgAddr} {s : State} {next : State → Prop}
    (hok : ∀ w, pushPC ret s = .ok w → next w) (hfault : ∀ f, pushPC ret s = .error f → r = .fault f) :
    PushesReturn r ret s next := by
  rw [PushesReturn]
  split
  · obtain ⟨u, hu, hpushed⟩ := push8_mapped (BitVec.ofNat 8 (ret.toNat % 256)) s ‹_›
    refine ⟨u, hpushed, ?_⟩
    split
    · obtain ⟨w, hw, hpushed'⟩ := push8_mapped (BitVec.ofNat 8 (ret.toNat / 256)) u ‹_›
      exact ⟨w, hpushed', hok w ((pushPC_of_push8 hu).trans hw)⟩
    · exact hfault _ ((pushPC_of_push8 hu).trans (push8_unmapped _ u (Nat.not_le.1 ‹_›)))
  · exact hfault _ (pushPC_of_push8_fault (push8_unmapped _ s (Nat.not_le.1 ‹_›)))

/-- What follows from PopPC completing, and the answer where it faults, are together the relation. -/
theorem isReturn_of_popPC {i : Instr} {s : State} {fin : ProgAddr → State → State}
    (hok : ∀ a w, popPC s = .ok (a, w) → exec i s = .next (fin a w))
    (hfault : ∀ f, popPC s = .error f → exec i s = .fault f) : IsReturn i s fin := by
  rw [IsReturn]
  split
  · obtain ⟨hi, u, hu, hpopped⟩ := pop8_mapped s ‹_›
    refine ⟨hi, u, hpopped, ?_⟩
    split
    · obtain ⟨lo, w, hw, hpopped'⟩ := pop8_mapped u ‹_›
      refine ⟨lo, w, hpopped', ?_⟩
      rw [← returnAddr_of_popped]
      exact hok _ w (popPC_of_pop8 hu hw)
    · exact hfault _ (popPC_of_second_pop8_fault hu (pop8_unmapped u (Nat.not_le.1 ‹_›)))
  · exact hfault _ (popPC_of_pop8_fault (pop8_unmapped s (Nat.not_le.1 ‹_›)))

/-! ### RCALL, ICALL, CALL (41_branch.md R168 to R170) -/

theorem callTo_of_pushPC {target ret : ProgAddr} {s w : State} (h : pushPC ret s = .ok w) :
    callTo target ret s = .next (w.setPc target) := by
  rw [callTo, h]

theorem callTo_of_fault {target ret : ProgAddr} {s : State} {f : Fault} (h : pushPC ret s = .error f) :
    callTo target ret s = .fault f := by
  rw [callTo, h]

theorem isCall_of_callTo {i : Instr} {s : State} {target ret : ProgAddr} (h : exec i s = callTo target ret s) :
    IsCall i s target ret :=
  pushesReturn_of_pushPC (fun _ hw => h.trans (callTo_of_pushPC hw)) (fun _ hf => h.trans (callTo_of_fault hf))

/-- Settles O49: each is the shared call, with its own target and return address. -/
theorem callResult : Obligations.CallResult := fun _ _ _ =>
  ⟨isCall_of_callTo rfl, isCall_of_callTo rfl, isCall_of_callTo rfl⟩

/-! ### RET and RETI (41_branch.md R171, R172; 60_exceptions.md R318) -/

theorem exec_ret_of_popPC {s w : State} {a : ProgAddr} (h : popPC s = .ok (a, w)) :
    exec .ret s = .next (w.setPc a) := by
  change execRet s = _
  rw [execRet, h]

theorem exec_ret_of_fault {s : State} {f : Fault} (h : popPC s = .error f) : exec .ret s = .fault f := by
  change execRet s = _
  rw [execRet, h]

theorem exec_reti_of_popPC {s w : State} {a : ProgAddr} (h : popPC s = .ok (a, w)) :
    exec .reti s = .next { w with pc := a, sreg := { w.sreg with i := true }, inhibit := true } := by
  change execReti s = _
  rw [execReti, returnFromInterrupt, h]
  rfl

theorem exec_reti_of_fault {s : State} {f : Fault} (h : popPC s = .error f) : exec .reti s = .fault f := by
  change execReti s = _
  rw [execReti, returnFromInterrupt, h]
  rfl

/-- Settles O50: both are PopPC, and differ in the state they make of what it leaves. -/
theorem returnResult : Obligations.ReturnResult := fun _ =>
  ⟨isReturn_of_popPC (fun _ _ => exec_ret_of_popPC) (fun _ => exec_ret_of_fault),
    isReturn_of_popPC (fun _ _ => exec_reti_of_popPC) (fun _ => exec_reti_of_fault)⟩

/-! ### A return after a call (41_branch.md R162) -/

/-- The state with the return address `a` stored at SP and below it, and SP two lower. -/
def State.returnPushed (s : State) (a : ProgAddr) : State :=
  ((s.setSramByte s.stackPtr (BitVec.ofNat 8 (a.toNat % 256))).setSramByte (s.stackPtr - 1)
    (BitVec.ofNat 8 (a.toNat / 256))).setSp (s.stackPtr - 1 - 1)

section
variable {s : State}

/-- An SP inside the data space is held as it is written, whatever its width. -/
theorem setSp_stackPtr_of_mapped (s : State) {p : Word} (h : p.toNat ≤ 0x8FF) : (s.setSp p).stackPtr = p := by
  rw [State.setSp_stackPtr]
  exact s.trimSp_of_lt (by omega)

theorem returnPushed_high (s : State) (a : ProgAddr) :
    (s.returnPushed a).sramByte (s.stackPtr - 1) = BitVec.ofNat 8 (a.toNat / 256) :=
  State.setSramByte_sramByte_self _ _ _

theorem returnPushed_low (s : State) (a : ProgAddr) :
    (s.returnPushed a).sramByte s.stackPtr = BitVec.ofNat 8 (a.toNat % 256) := by
  have hne : s.stackPtr ≠ s.stackPtr - 1 := by bv_omega
  rw [State.returnPushed, State.setSp_sramByte, State.setSramByte_sramByte_ne _ _ hne, State.setSramByte_sramByte_self]

theorem returnPushed_stackPtr (a : ProgAddr) (h : s.stackRoom 2) :
    (s.returnPushed a).stackPtr = s.stackPtr - 1 - 1 := by
  obtain ⟨hlow, hhigh⟩ := h
  exact setSp_stackPtr_of_mapped _ (by bv_omega)

/-- With room in SRAM, PushPC stores the two bytes and completes. -/
theorem pushPC_of_stackRoom (a : ProgAddr) (h : s.stackRoom 2) : pushPC a s = .ok (s.returnPushed a) := by
  obtain ⟨hlow, hhigh⟩ := h
  have hpred : (s.stackPtr - 1).toNat = s.stackPtr.toNat - 1 := by bv_omega
  have hsp (u : State) : (u.setSp (s.stackPtr - 1)).stackPtr = s.stackPtr - 1 :=
    setSp_stackPtr_of_mapped u (by omega)
  rw [pushPC_of_push8 (push8_sram _ s (by omega) hhigh), push8_sram _ _ (by rw [hsp]; omega) (by rw [hsp]; omega), hsp]
  rfl

/-- With SP two below `p` in SRAM, PopPC reads the bytes at `p - 1` and `p`. -/
theorem popPC_of_stackPtr {p : Word} (hp : s.stackPtr = p - 1 - 1) (hlow : 0x101 ≤ p.toNat) (hhigh : p.toNat ≤ 0x8FF) :
    popPC s = .ok ((ofBytes (s.sramByte (p - 1)) (s.sramByte p)).setWidth 14, (s.setSp (p - 1)).setSp p) := by
  have hpred : (p - 1).toNat = p.toNat - 1 := by bv_omega
  have hfst : s.stackPtr + 1 = p - 1 := by rw [hp, BitVec.sub_add_cancel]
  have hsnd : (s.setSp (p - 1)).stackPtr + 1 = p := by
    rw [setSp_stackPtr_of_mapped s (by omega), BitVec.sub_add_cancel]
  have hpop := pop8_sram s (by rw [hfst]; omega) (by rw [hfst]; omega)
  have hpop' := pop8_sram (s.setSp (p - 1)) (by rw [hsnd]; omega) (by rw [hsnd]; omega)
  rw [hfst] at hpop
  rw [hsnd] at hpop'
  exact popPC_of_pop8 hpop hpop'

/-- With room in SRAM, PopPC gives a pushed return address back, with SP, registers and flags as before the push,
wherever the pc went in between. -/
theorem popPC_returnPushed (a target : ProgAddr) (h : s.stackRoom 2) :
    ∃ v, popPC ((s.returnPushed a).setPc target) = .ok (a, v) ∧
      v.stackPtr = s.stackPtr ∧ v.regs = s.regs ∧ v.sreg = s.sreg := by
  have ⟨hlow, hhigh⟩ := h
  have hpop := popPC_of_stackPtr (s := (s.returnPushed a).setPc target) (returnPushed_stackPtr a h) hlow hhigh
  rw [State.setPc_sramByte, State.setPc_sramByte, returnPushed_high, returnPushed_low, returnAddr_of_bytes] at hpop
  exact ⟨_, hpop, setSp_stackPtr_of_mapped _ hhigh, rfl, rfl⟩

end

/-- Settles O30: each call is `callTo` for some target, and both returns pop what it pushed. -/
theorem returnAfterCall : Obligations.ReturnAfterCall := by
  intro s i ret hroom hcall
  have hexec : ∃ target, exec i s = callTo target ret s := by
    obtain ⟨⟨k, rfl⟩, rfl⟩ | ⟨rfl, rfl⟩ | ⟨⟨k, rfl⟩, rfl⟩ := hcall <;> exact ⟨_, rfl⟩
  obtain ⟨target, hexec⟩ := hexec
  obtain ⟨v, hpop, hsp, hregs, hsreg⟩ := popPC_returnPushed ret target hroom
  exact ⟨_, _, _, hexec.trans (callTo_of_pushPC (pushPC_of_stackRoom ret hroom)), exec_ret_of_popPC hpop,
    exec_reti_of_popPC hpop, rfl, hsp, hregs, hsreg, rfl, hsp, hregs,
    congrArg (fun r : Sreg => { r with i := true }) hsreg, rfl⟩

end Sys2Proof.Machine
end

section
/-!
PROOFS (42_data_transfer.md). The loads and stores that update their pointer, a POP after a PUSH, and SPM.
-/

namespace Sys2Proof.Machine

/-! ### The shared endings of loads and stores (R210) -/

theorem load_mapped (d : Reg) {a : Word} (n : ProgAddr) (s : State) (h : a.toNat ≤ 0x8FF) :
    ∃ v u, DataRead a s v u ∧ load d a n s = .next ((u.setReg d v).setPc (s.pc + n)) := by
  obtain ⟨v, u, hread, hmap⟩ := memRead_mapped s h
  exact ⟨v, u, hmap, by simp only [load, hread, State.advance, State.setReg_pc, memRead_pc hread]⟩

theorem load_unmapped (d : Reg) {a : Word} (n : ProgAddr) (s : State) (h : 0x8FF < a.toNat) :
    load d a n s = .fault (.unmappedData a .read) := by
  rw [load, memRead_unmapped s h]

theorem store_mapped {a : Word} (v : Byte) (n : ProgAddr) (s : State) (h : a.toNat ≤ 0x8FF) :
    ∃ u, DataWrite a v s u ∧ store a v n s = .next (u.setPc (s.pc + n)) := by
  obtain ⟨u, hwrite, hmap⟩ := memWrite_mapped v s h
  exact ⟨u, hmap, by simp only [store, hwrite, State.advance, memWrite_pc hwrite]⟩

theorem store_unmapped {a : Word} (v : Byte) (n : ProgAddr) (s : State) (h : 0x8FF < a.toNat) :
    store a v n s = .fault (.unmappedData a .write) := by
  rw [store, memWrite_unmapped v s h]

/-! ### Loads and stores with pointer update (R213) -/

section
variable {i : Instr} {m : String} {p : Pointer} {d r : Reg} {s : State}

theorem isLoadPostInc_of_exec (h : exec i s = loadPostInc m p d s) : IsLoadPostInc i m s d p := by
  simp only [IsLoadPostInc, h, loadPostInc, Pointer.owns_iff]
  split_ifs with _ hmapped
  · rfl
  · obtain ⟨v, u, hread, hmap⟩ := memRead_mapped s hmapped
    exact ⟨v, u, hmap, by
      simp only [hread, State.advance, State.setPtr_pc, State.setReg_pc, memRead_pc hread]⟩
  · rw [memRead_unmapped s (Nat.not_le.1 hmapped)]

/-- The access is that of the state whose pointer is already decremented. -/
theorem isLoadPreDec_of_exec (h : exec i s = loadPreDec m p d s) : IsLoadPreDec i m s d p := by
  simp only [IsLoadPreDec, h, loadPreDec, Pointer.owns_iff]
  split_ifs with _ hmapped
  · rfl
  · exact load_mapped d 1 (s.setPtr p (s.ptr p - 1)) hmapped
  · exact load_unmapped d 1 _ (Nat.not_le.1 hmapped)

theorem isStorePostInc_of_exec (h : exec i s = storePostInc m p r s) : IsStorePostInc i m s r p := by
  simp only [IsStorePostInc, h, storePostInc, Pointer.owns_iff]
  split_ifs with _ hmapped
  · rfl
  · obtain ⟨u, hwrite, hmap⟩ := memWrite_mapped (s.reg r) s hmapped
    exact ⟨u, hmap, by simp only [hwrite, State.advance, State.setPtr_pc, memWrite_pc hwrite]⟩
  · rw [memWrite_unmapped _ s (Nat.not_le.1 hmapped)]

/-- The byte stored is read before the pointer is decremented, and the access is that of the state after it. -/
theorem isStorePreDec_of_exec (h : exec i s = storePreDec m p r s) : IsStorePreDec i m s r p := by
  simp only [IsStorePreDec, h, storePreDec, Pointer.owns_iff]
  split_ifs with _ hmapped
  · rfl
  · exact store_mapped (s.reg r) 1 (s.setPtr p (s.ptr p - 1)) hmapped
  · exact store_unmapped _ 1 _ (Nat.not_le.1 hmapped)

end

/-- Settles O52: each is the shared load of its form, at its own pointer. -/
theorem loadUpdateResult : Obligations.LoadUpdateResult := fun _ _ =>
  ⟨isLoadPostInc_of_exec rfl, isLoadPreDec_of_exec rfl, isLoadPostInc_of_exec rfl, isLoadPreDec_of_exec rfl,
    isLoadPostInc_of_exec rfl, isLoadPreDec_of_exec rfl⟩

/-- Settles O54: each is the shared store of its form, at its own pointer. -/
theorem storeUpdateResult : Obligations.StoreUpdateResult := fun _ _ =>
  ⟨isStorePostInc_of_exec rfl, isStorePreDec_of_exec rfl, isStorePostInc_of_exec rfl, isStorePreDec_of_exec rfl,
    isStorePostInc_of_exec rfl, isStorePreDec_of_exec rfl⟩

/-! ### A POP after a PUSH (R211, R212, R247, R248) -/

/-- The state with the byte `v` stored at SP, SP one lower and the pc at the next word. -/
def State.bytePushed (s : State) (v : Byte) : State :=
  ((s.setSramByte s.stackPtr v).setSp (s.stackPtr - 1)).advance 1

theorem bytePushed_stackPtr {s : State} (v : Byte) (h : s.stackRoom 1) :
    (s.bytePushed v).stackPtr = s.stackPtr - 1 := by
  obtain ⟨hlow, hhigh⟩ := h
  exact setSp_stackPtr_of_mapped _ (by bv_omega)

theorem bytePushed_sramByte (s : State) (v : Byte) : (s.bytePushed v).sramByte s.stackPtr = v :=
  s.setSramByte_sramByte_self s.stackPtr v

/-- With room in SRAM, PUSH stores its register there and completes. -/
theorem exec_push_of_stackRoom (r : Reg) {s : State} (h : s.stackRoom 1) :
    exec (.push r) s = .next (s.bytePushed (s.reg r)) := by
  obtain ⟨hlow, hhigh⟩ := h
  rw [exec_push, execPush, push8_sram _ s hlow hhigh]
  rfl

/-- With SP one below `p` in SRAM, POP loads the byte at `p` and leaves SP there. -/
theorem exec_pop_of_stackPtr (d : Reg) {s : State} {p : Word} (hp : s.stackPtr = p - 1) (hlow : 0x100 ≤ p.toNat)
    (hhigh : p.toNat ≤ 0x8FF) :
    exec (.pop d) s = .next (((s.setSp p).setReg d (s.sramByte p)).advance 1) := by
  have hsucc : s.stackPtr + 1 = p := by rw [hp, BitVec.sub_add_cancel]
  have hpop := pop8_sram s (by rw [hsucc]; exact hlow) (by rw [hsucc]; exact hhigh)
  rw [hsucc] at hpop
  rw [exec_pop, execPop, hpop]

/-- Settles O29: the POP reads the SRAM byte that the PUSH wrote, and neither touches a register other than `d`. -/
theorem popAfterPush : Obligations.PopAfterPush := by
  intro s r d hroom
  have ⟨hlow, hhigh⟩ := hroom
  refine ⟨_, _, exec_push_of_stackRoom r hroom,
    exec_pop_of_stackPtr d (bytePushed_stackPtr (s.reg r) hroom) hlow hhigh, ?_, ?_, rfl, fun i hi => ?_⟩
  · rw [State.advance_reg, State.setReg_reg_self, bytePushed_sramByte]
  · exact setSp_stackPtr_of_mapped _ hhigh
  · exact State.setReg_reg_ne _ _ hi

/-! ### SPM (R244) -/

/-- Settles O56: the meaning of SPM does not look at the state. -/
theorem spmStops : Obligations.SpmStops := fun _ => rfl

end Sys2Proof.Machine
end

section
/-!
PROOFS (43_bit_and_bit_test.md R261, R265, R267, R268, R270 to R289). The right shifts, the bit copies and the flag
instructions. The three shifts differ in the bit that enters only; the named flag instructions are BSET and BCLR.
-/

namespace Sys2Proof.Machine

/-! ### LSR, ROR, ASR (R261, R265, R267, R268) -/

/-- A byte shifted right with the bit `x` entering bit 7 is the byte halved, and 128 for that bit. -/
theorem shiftInTop_toNat (a : Byte) (x : BitVec 1) :
    (x ++ a.extractLsb' 1 7 : Byte).toNat = a.toNat / 2 + 128 * x.toNat := by
  have ha := a.isLt
  rw [BitVec.toNat_append, ← Nat.shiftLeft_add_eq_or_of_lt (BitVec.isLt _), Nat.shiftLeft_eq,
    BitVec.extractLsb'_toNat, Nat.shiftRight_eq_div_pow]
  omega

/-- Bit 7 alone, as a number. -/
theorem signBit_toNat (a : Byte) : (a.extractLsb' 7 1).toNat = a.toNat / 128 := by
  have ha := a.isLt
  rw [BitVec.extractLsb'_toNat, Nat.shiftRight_eq_div_pow]
  omega

theorem getLsbD_zero_eq_odd (a : Byte) : a.getLsbD 0 = decide (a.toNat % 2 = 1) := Nat.testBit_zero a.toNat

/-- The flags of a right shift are those of its operand and result as numbers; S, which is N xor V, is C again. -/
theorem shiftRightFlags_rule (a res : Byte) (r : Sreg) : ShiftRule a res r (shiftRightFlags a res r) where
  c := getLsbD_zero_eq_odd a
  n := getLsbD_seven res
  z := beq_eq_decide_toNat res 0
  v := rfl
  s := Bool.bne_self_left _ _
  h := rfl
  t := rfl
  i := rfl

theorem isShiftRight_of_endReg {i : Instr} {s : State} {d : Reg} {v : Byte} {n : Nat}
    (h : exec i s = endReg d v (shiftRightFlags (s.reg d) v s.sreg) s) (hv : v.toNat = n) :
    IsShiftRight i s d n := by
  refine ⟨_, h, ?_, ?_, rfl, endReg_regFrame s d v _⟩ <;> rw [endReg_reg]
  · exact hv
  · exact shiftRightFlags_rule _ v s.sreg

/-- Settles O42, by the bit that enters bit 7 in each. -/
theorem shiftRightResult : Obligations.ShiftRightResult := by
  intro d s
  refine ⟨?lsr, ?ror, ?asr⟩
  case lsr => exact isShiftRight_of_endReg rfl (shiftInTop_toNat _ 0#1)
  case ror => exact isShiftRight_of_endReg rfl (by rw [shiftInTop_toNat, BitVec.toNat_ofBool])
  case asr => exact isShiftRight_of_endReg rfl (by rw [shiftInTop_toNat, signBit_toNat])

/-! ### BST and BLD (R270, R271) -/

/-- Bit `b` cleared and then filled with `x`. -/
theorem copyBit_getLsbD (v : Byte) (b : BitPos) (x : Bool) {j : Nat} (hj : j < 8) :
    ((v &&& ~~~bitMask b) ||| (bit8 x <<< b.val)).getLsbD j = if j = b.val then x else v.getLsbD j := by
  cases x with
  | false =>
    rw [show bit8 false = 0#8 from rfl, BitVec.zero_shiftLeft, BitVec.or_zero]
    exact clearBit_getLsbD v b hj
  | true =>
    rw [show bit8 true <<< b.val = bitMask b from rfl, setBit_getLsbD, clearBit_getLsbD v b hj]
    split <;> rfl

/-- Settles O44: BST writes one flag, BLD one bit of the register. -/
theorem bitCopyResult : Obligations.BitCopyResult := by
  intro d b s
  refine ⟨⟨_, rfl, rfl, rfl, regFrame_of_regs s fun _ _ => rfl⟩,
    ⟨_, rfl, fun j hj => ?_, rfl, rfl, endReg_regFrame s d _ s.sreg⟩⟩
  rw [endReg_reg]
  exact copyBit_getLsbD (s.reg d) b s.sreg.t hj

/-! ### BSET, BCLR and the named flag instructions (R272 to R289) -/

/-- A flag write sets I from 0 exactly when it writes a one to I itself (60_exceptions.md R319). -/
theorem Sreg.set_enables (r : Sreg) (f : BitPos) (x : Bool) :
    (!r.i && (r.set f x).i) = (decide (f = 7) && x && !r.i) := by
  have hi : (r.set f x).i = if 7 = f then x else r.i := r.set_get f 7 x
  rw [hi]
  by_cases hf : 7 = f
  · rw [if_pos hf, decide_eq_true hf.symm, Bool.true_and, Bool.and_comm]
  · rw [if_neg hf, decide_eq_false (Ne.symm hf), Bool.not_and_self]
    rfl

theorem isFlagWrite_of_writeFlag {i : Instr} {s : State} {f : BitPos} {x : Bool}
    (h : exec i s = .next ((s.writeFlag f x).advance 1)) : IsFlagWrite i s f x := by
  refine ⟨s.sreg.set f x, fun g => s.sreg.set_get f g x, ?_⟩
  rw [h, State.writeFlag, State.writeSreg, Sreg.set_enables]
  rfl

/-- An instruction whose expansion is a BSET sets that flag (30_encoding.md R103). -/
theorem isFlagWrite_of_canonical_bset {i : Instr} {f : BitPos} (s : State) (h : i.canonical = .bset f) :
    IsFlagWrite i s f true :=
  isFlagWrite_of_writeFlag (by rw [aliasMeaning i s, h]; rfl)

/-- An instruction whose expansion is a BCLR clears that flag (30_encoding.md R103). -/
theorem isFlagWrite_of_canonical_bclr {i : Instr} {f : BitPos} (s : State) (h : i.canonical = .bclr f) :
    IsFlagWrite i s f false :=
  isFlagWrite_of_writeFlag (by rw [aliasMeaning i s, h]; rfl)

/-- Settles O45: each of the instructions expands to the BSET or the BCLR of the flag it names. -/
theorem flagWriteResult : Obligations.FlagWriteResult := by
  intro f s
  have sets {i : Instr} {g : BitPos} (h : i.canonical = .bset g) := isFlagWrite_of_canonical_bset s h
  have clears {i : Instr} {g : BitPos} (h : i.canonical = .bclr g) := isFlagWrite_of_canonical_bclr s h
  exact ⟨sets rfl, clears rfl, sets rfl, clears rfl, sets rfl, clears rfl, sets rfl, clears rfl, sets rfl, clears rfl,
    sets rfl, clears rfl, sets rfl, clears rfl, sets rfl, clears rfl, sets rfl, clears rfl⟩

end Sys2Proof.Machine
end

section
/-!
PROOFS (44_mcu_control.md R300 to R303; 60_exceptions.md R340). NOP, SLEEP, WDR and BREAK, and what a step does to a
sleeping CPU: with no interrupt due it is the environment's action and the clearing of IntInhibit, and where nothing can
wake the CPU that leaves its own state as it was.
-/

namespace Sys2Proof.Machine

/-! ### NOP, SLEEP, WDR and BREAK (44_mcu_control.md R300 to R303) -/

theorem exec_sleep (s : State) :
    exec .sleep s = .next { s.advance 1 with sleeping := s.sleeping || s.sleepEnabled } := rfl

theorem exec_sleep_of_enabled {s : State} (h : s.sleepEnabled = true) :
    exec .sleep s = .next { s with pc := s.pc + 1, sleeping := true } := by
  rw [exec_sleep, h, Bool.or_true]
  rfl

/-- Where it is not enabled, SLEEP is a NOP (R301). -/
theorem exec_sleep_of_not_enabled {s : State} (h : s.sleepEnabled = false) :
    exec .sleep s = .next { s with pc := s.pc + 1 } := by
  rw [exec_sleep, h, Bool.or_false]
  rfl

/-- What `SLEEP_ENABLED` is in each configuration: a constant, or bit 0 of SMCR (R301, D20). -/
theorem sleepEnabled_eq_true_iff (s : State) :
    s.sleepEnabled = true ↔
      s.cfg.sleepEnable = .always ∨ s.cfg.sleepEnable = .smcr ∧ (s.deviceByte 0x53).getLsbD 0 = true := by
  cases h : s.cfg.sleepEnable <;> simp [State.sleepEnabled, h, Config.smcrAddr]

theorem sleepEnabled_eq_false_iff (s : State) :
    s.sleepEnabled = false ↔
      s.cfg.sleepEnable = .never ∨ s.cfg.sleepEnable = .smcr ∧ (s.deviceByte 0x53).getLsbD 0 = false := by
  cases h : s.cfg.sleepEnable <;> simp [State.sleepEnabled, h, Config.smcrAddr]

/-- Settles O59: SLEEP and BREAK by what the configuration makes of them, NOP and WDR without a case. -/
theorem controlResult : Obligations.ControlResult := by
  intro s
  refine ⟨rfl, rfl, fun hoff => ?brkOff, fun hon => ?brkOn,
    fun h => exec_sleep_of_enabled ((sleepEnabled_eq_true_iff s).mpr h),
    fun h => exec_sleep_of_not_enabled ((sleepEnabled_eq_false_iff s).mpr h)⟩
  case brkOff => exact if_neg (by rw [hoff]; exact Bool.false_ne_true)
  case brkOn => exact if_pos hon

/-! ### A sleeping CPU with no interrupt due (60_exceptions.md R314, R319, R340) -/

/-- A request is due only with I set, outside IntInhibit, and if one of the vectors 1 to 25 is pending. -/
theorem interruptDue_eq_none {s : State} {inhibited : Bool}
    (h : s.sreg.i = false ∨ inhibited = true ∨ ∀ n, 1 ≤ n → n ≤ 25 → s.pending.getLsbD n = false) :
    s.interruptDue inhibited = none := by
  refine Option.eq_none_iff_forall_ne_some.mpr fun n hn => ?_
  obtain ⟨hi, hinh, hlow⟩ := interruptDue_some hn
  obtain ⟨hge, hle, hpend⟩ := lowestRequest_spec hlow
  obtain hclear | hset | hnone := h
  · exact absurd hi (by simp [hclear])
  · exact absurd hset (by simp [hinh])
  · exact absurd hpend (by simp [hnone n hge hle])

/-- A sleeping CPU with no interrupt due executes nothing (60_exceptions.md R340). -/
theorem cpuStep_asleep {s : State} (hdue : State.interruptDue { s with inhibit := false } s.inhibit = none)
    (hs : s.sleeping = true) : cpuStep s = .next { s with inhibit := false } := by
  simp only [cpuStep, hdue]
  exact if_pos hs

/-- Settles O60: the CPU's part of the step after the environment's action clears IntInhibit only. -/
theorem sleepingIdle : Obligations.SleepingIdle :=
  fun _ hs hnone => cpuStep_asleep (interruptDue_eq_none hnone) hs

/-! ### A CPU that nothing can wake (44_mcu_control.md R301, 60_exceptions.md R328) -/

theorem State.SameCpu.interruptFree {s t : State} (h : State.SameCpu s t) (hs : s.interruptFree) : t.interruptFree := by
  simpa only [State.interruptFree, h.sreg, h.cfg] using hs

theorem State.SameCpu.stuckAsleep {s t : State} (h : State.SameCpu s t) (hs : s.stuckAsleep) : t.stuckAsleep := by
  obtain ⟨hasleep, hfree, hreset⟩ := hs
  exact ⟨by rw [h.sleeping, hasleep], h.interruptFree hfree, by rw [h.cfg, hreset]⟩

/-- The step of a CPU that nothing can wake: the environment's action, and IntInhibit cleared. -/
theorem step_stuckAsleep {s : State} (hp : s.pending &&& ~~~s.cfg.requests = 0) (h : s.stuckAsleep) :
    step s = .next { envStep s with inhibit := false } := by
  obtain ⟨hasleep, hfree, hreset⟩ := h
  have hsame := sameCpu_envStep hreset
  have hdue : State.interruptDue { envStep s with inhibit := false } (envStep s).inhibit = none :=
    interruptDue_of_interruptFree (hsame.interruptFree hfree) (envStep_pending_configured hp) _
  exact cpuStep_asleep hdue (hsame.sleeping.trans hasleep)

/-- Settles O19: without a reset the environment leaves the CPU's own state alone, and `stuckAsleep` reads nothing else. -/
theorem stuckAsleepStays : Obligations.StuckAsleepStays := by
  intro s hinv hstuck
  obtain ⟨-, -, -, hp⟩ := hinv
  have ⟨_, _, hreset⟩ := hstuck
  have hsame : State.SameCpu s { envStep s with inhibit := false } := { sameCpu_envStep hreset with }
  exact ⟨_, step_stuckAsleep hp hstuck, hsame, envStep_cycles hreset, hsame.stuckAsleep hstuck⟩

end Sys2Proof.Machine
end

section
/-!
PROOFS (60_exceptions.md R312 to R315, R340; 70_reset_and_hazards.md R351). What the environment does between two
instructions: without a reset, devices and requests only; with one, the reset event. Which pending request is chosen; and a
machine without sources, on which nothing is ever pending.
-/

namespace Sys2Proof.Machine

/-! ### The environment without a reset (R312, R314) -/

/-- Unless a reset is allowed and is the next action, `EnvStep` is an action on devices and requests, or nothing. -/
theorem envStep_cases_of_no_reset {s : State}
    (h : s.cfg.spontaneousReset = false ∨ ∀ e rest, s.env = e :: rest → e.reset = none) :
    envStep s = s ∨ ∃ e rest, envStep s = actOnDevices e { s with env := rest } := by
  obtain ⟨-, he⟩ | ⟨e, rest, henv, he⟩ := envStep_cases s
  · exact .inl he
  · obtain ha | ⟨src, hsrc, hallowed, -⟩ := applyAction_cases e { s with env := rest }
    · exact .inr ⟨e, rest, he.trans ha⟩
    · obtain hr | hr := h
      · exact absurd (hallowed : s.cfg.spontaneousReset = true) (by simp [hr])
      · exact absurd hsrc (by simp [hr e rest henv])

/-- A request is pending after an action if it was or is a configured one raised, and is not a level-type one withdrawn. -/
theorem actOnDevices_pending_getLsbD (e : EnvAction) (s : State) (n : Nat) :
    (actOnDevices e s).pending.getLsbD n =
      ((s.pending.getLsbD n || (e.raise.getLsbD n && s.cfg.requests.getLsbD n)) &&
        !(e.withdraw.getLsbD n && s.cfg.levelSources.getLsbD n)) := by
  by_cases hn : n < 26
  · simp [actOnDevices, hn]
  · simp [BitVec.getLsbD_of_ge _ n (Nat.not_lt.1 hn)]

/-- Settles O22: the environment's action on devices and requests, bit by bit of the requests. -/
theorem environmentFrame : Obligations.EnvironmentFrame := by
  intro s h
  obtain he | ⟨e, rest, he⟩ := envStep_cases_of_no_reset h
  · rw [he]
    exact ⟨⟨rfl, rfl, rfl, rfl, rfl, rfl, rfl, rfl, rfl⟩, rfl, rfl, fun _ hn => .inl hn,
      fun _ hn hn' => absurd hn (by simp [hn'])⟩
  · rw [he]
    refine ⟨⟨rfl, rfl, rfl, rfl, rfl, rfl, rfl, rfl, rfl⟩, rfl, rfl, fun n hn => ?raised, fun n hn hn' => ?withdrawn⟩
    case raised =>
      rw [actOnDevices_pending_getLsbD, Bool.and_eq_true, Bool.or_eq_true, Bool.and_eq_true] at hn
      exact hn.1.imp_right And.right
    case withdrawn =>
      rw [actOnDevices_pending_getLsbD, hn, Bool.true_or, Bool.true_and, Bool.not_eq_false', Bool.and_eq_true] at hn'
      exact hn'.2

/-! ### The reset event (70_reset_and_hazards.md R351) -/

theorem envStep_of_reset {s : State} {e : EnvAction} {rest : List EnvAction} {src : ResetSource}
    (henv : s.env = e :: rest) (hsrc : e.reset = some src) (hallowed : s.cfg.spontaneousReset = true) :
    envStep s = resetEvent src (actOnDevices e { s with env := rest }) := by
  simp only [envStep, henv, applyAction, hsrc, hallowed]

/-- Every reset but a power-on keeps SRAM (log 20). -/
theorem resetEvent_sramByte {src : ResetSource} (h : src ≠ .powerOn) (s : State) (a : Word) :
    (resetEvent src s).sramByte a = s.sramByte a := by
  simp only [State.sramByte, resetEvent, if_neg h]

/-- Settles O23: the values that `resetEvent` writes; the action on the devices before it touches none that it keeps. -/
theorem resetDuringRun : Obligations.ResetDuringRun := by
  intro s e rest src henv hsrc hallowed
  have hkeeps := keeps_envStep s
  rw [envStep_of_reset henv hsrc hallowed] at hkeeps ⊢
  have hclear : Sreg.clear.toByte = 0x00 := by decide
  exact ⟨rfl, hclear, rfl, rfl, rfl, rfl, hkeeps.progWord, hkeeps.cfg, fun h => resetEvent_sramByte h _⟩

/-! ### The choice among pending requests (R315) -/

theorem lowestRequest_eq_some_iff (c : Config) (p : IntSet) (n : Nat) :
    lowestRequest c p = some n ↔
      1 ≤ n ∧ n ≤ 25 ∧ p.getLsbD n = true ∧ ∀ m, 1 ≤ m → m < n → p.getLsbD m = false := by
  have hrange : n ∈ List.range' 1 (26 - 1) ↔ 1 ≤ n ∧ n ≤ 25 := by
    rw [List.mem_range'_1]
    omega
  rw [lowestRequest, Config.hw_vectorCount, List.find?_range'_eq_some, hrange]
  simp only [Bool.not_eq_true']
  tauto

theorem lowestRequest_eq_none_iff (c : Config) (p : IntSet) :
    lowestRequest c p = none ↔ ∀ n, 1 ≤ n → n ≤ 25 → p.getLsbD n = false := by
  simp only [lowestRequest, Config.hw_vectorCount, List.find?_range'_eq_none, Bool.not_eq_true',
    show 1 + (26 - 1) = 25 + 1 from rfl, Nat.lt_succ_iff]

/-- Settles O17: the search runs through 1 to 25 in rising order and stops at the first pending vector. -/
theorem interruptPriority : Obligations.InterruptPriority :=
  fun c p => ⟨lowestRequest_eq_some_iff c p, lowestRequest_eq_none_iff c p⟩

/-! ### A machine without sources (R313) -/

/-- From `s` to `t` the configuration is the same, and without a source so are the pending requests. -/
structure PendingKept (s t : State) : Prop where
  cfg : t.cfg = s.cfg
  pending : s.cfg.requests = 0 → t.pending = s.pending

section
variable {s t u : State}

theorem PendingKept.trans (h : PendingKept s t) (h' : PendingKept t u) : PendingKept s u where
  cfg := h'.cfg.trans h.cfg
  pending hq := (h'.pending (by rw [h.cfg, hq])).trans (h.pending hq)

theorem PendingKept.of_same (hcfg : t.cfg = s.cfg) (hpending : t.pending = s.pending) : PendingKept s t :=
  ⟨hcfg, fun _ => hpending⟩

theorem pendingKept_deviceWrite (s : State) (a : Word) (v : Byte) : PendingKept s (s.deviceWrite a v) :=
  ⟨rfl, (deviceWrite_pending_cases s a v).1⟩

theorem pendingKept_memRead {a : Word} {v : Byte} (h : memRead a s = .ok (v, u)) : PendingKept s u := by
  obtain rfl | rfl := memRead_state h <;> exact .of_same rfl rfl

theorem pendingKept_memWrite {a : Word} {v : Byte} (h : memWrite a v s = .ok u) : PendingKept s u := by
  obtain ⟨_, rfl⟩ | ⟨-, rfl⟩ | ⟨-, rfl⟩ | ⟨-, rfl⟩ | ⟨-, -, rfl⟩ | ⟨-, -, rfl⟩ := memWrite_cases h
  case inr.inr.inr.inr.inl => exact pendingKept_deviceWrite s a v
  all_goals exact .of_same rfl rfl

theorem pendingKept_push8 {v : Byte} (h : push8 v s = .ok u) : PendingKept s u := by
  obtain ⟨w, hw, rfl⟩ := push8_cases h
  exact (pendingKept_memWrite hw).trans (.of_same rfl rfl)

theorem pendingKept_pop8 {v : Byte} (h : pop8 s = .ok (v, u)) : PendingKept s u := by
  rw [pop8_eq] at h
  exact (PendingKept.of_same rfl rfl : PendingKept s (s.setSp (s.stackPtr + 1))).trans (pendingKept_memRead h)

theorem pendingKept_popPC {a : ProgAddr} (h : popPC s = .ok (a, u)) : PendingKept s u := by
  obtain ⟨_, w, _, h1, h2, -⟩ := popPC_cases h
  exact (pendingKept_pop8 h1).trans (pendingKept_pop8 h2)

theorem pendingKept_setPtr (s : State) (p : Pointer) (v : Word) : PendingKept s (s.setPtr p v) := .of_same rfl rfl

/-- Without a source no instruction makes anything pending: only device writes could, and they do not. -/
theorem Did.pendingKept {i : Instr} (hdid : Did i s t) : PendingKept s t := by
  cases hdid with
  | endReg d v r e | endPair d v r e | endFlags r e | writeFlag f x e | pc a e | skipIO a b e | lpmInc d v e
  | sleep b e | wdr e =>
    subst e
    exact .of_same rfl rfl
  | load d a n v u h e | loadInc p d v u h e =>
    subst e
    exact (pendingKept_memRead h).trans (.of_same rfl rfl)
  | loadDec p d v u h e =>
    subst e
    exact (pendingKept_setPtr s p _).trans ((pendingKept_memRead h).trans (.of_same rfl rfl))
  | store a v n u h e | storeInc p v u h e =>
    subst e
    exact (pendingKept_memWrite h).trans (.of_same rfl rfl)
  | storeDec p v u h e =>
    subst e
    exact (pendingKept_setPtr s p _).trans ((pendingKept_memWrite h).trans (.of_same rfl rfl))
  | call r a u w h1 h2 e =>
    subst e
    exact (pendingKept_push8 h1).trans ((pendingKept_push8 h2).trans (.of_same rfl rfl))
  | ret a u h e | reti a u h e =>
    subst e
    exact (pendingKept_popPC h).trans (.of_same rfl rfl)
  | push v u h e =>
    subst e
    exact (pendingKept_push8 h).trans (.of_same rfl rfl)
  | pop d v u h e =>
    subst e
    exact (pendingKept_pop8 h).trans (.of_same rfl rfl)
  | modIO a v e =>
    subst e
    have hread : PendingKept s (s.deviceAfterRead (ioAddr5 s.cfg a)) := .of_same rfl rfl
    exact hread.trans ((pendingKept_deviceWrite _ _ v).trans (.of_same rfl rfl))

end

/-- Where only configured sources are pending and none is configured, nothing is pending. -/
theorem pending_eq_zero_of_sourceless {s : State} (hq : s.cfg.requests = 0) (hp : s.pending &&& ~~~s.cfg.requests = 0) :
    s.pending = 0 := by
  rwa [hq, show ~~~(0 : IntSet) = BitVec.allOnes 26 from rfl, BitVec.and_allOnes] at hp

/-- Settles O21: the environment raises nothing, so no interrupt is entered, and the instruction raises nothing. -/
theorem sourcelessMachine : Obligations.SourcelessMachine := by
  intro s hq hzero hreset
  have hconfigured : s.pending &&& ~~~s.cfg.requests = 0 := by
    rw [hzero]
    exact BitVec.zero_and
  have hcfg : (envStep s).cfg = s.cfg := (sameCpu_envStep hreset).cfg
  have henv : (envStep s).pending = 0 :=
    pending_eq_zero_of_sourceless (by rw [hcfg, hq]) (envStep_pending_configured hconfigured)
  refine ⟨fun t ht => ?pending, step_undiverted hconfigured (.inr hq) hreset⟩
  case pending =>
    obtain ⟨n, u, hdue, -⟩ | ⟨-, -, rfl⟩ | ⟨i, u, -, -, -, hexec, rfl⟩ := step_cases ht
    · obtain ⟨-, -, hlow⟩ := interruptDue_some hdue
      rw [show State.pending { envStep s with inhibit := false } = 0 from henv, lowestRequest_zero] at hlow
      cases hlow
    · exact henv
    · exact ((exec_did hexec).pendingKept.pending (by rw [← hq, ← hcfg])).trans henv

end Sys2Proof.Machine
end

section
/-!
PROOFS (60_exceptions.md R319). The one-instruction rule. `EnableRule` says that IntInhibit is set exactly when I goes from
0 to 1. Each operation that writes SREG keeps it; it is composed with operations that leave both alone, because I could
otherwise be set and cleared again on the way.
-/

namespace Sys2Proof.Machine

/-- From `s` to `t`, IntInhibit becomes set exactly if I goes from 0 to 1 (60_exceptions.md R319). -/
def EnableRule (s t : State) : Prop := t.inhibit = (s.inhibit || (!s.sreg.i && t.sreg.i))

/-- From `s` to `t`, I and IntInhibit are the same. -/
structure SameEnable (s t : State) : Prop where
  i : t.sreg.i = s.sreg.i
  inhibit : t.inhibit = s.inhibit

section
variable {s t u : State}

theorem SameEnable.trans (h : SameEnable s t) (h' : SameEnable t u) : SameEnable s u :=
  ⟨h'.i.trans h.i, h'.inhibit.trans h.inhibit⟩

theorem SameEnable.enableRule (h : SameEnable s t) : EnableRule s t := by
  rw [EnableRule, h.inhibit, h.i, Bool.not_and_self, Bool.or_false]

theorem SameEnable.trans_enableRule (h : SameEnable s t) (h' : EnableRule t u) : EnableRule s u := by
  rwa [EnableRule, h.inhibit, h.i] at h'

theorem EnableRule.trans_sameEnable (h : EnableRule s t) (h' : SameEnable t u) : EnableRule s u := by
  rwa [EnableRule, ← h'.inhibit, ← h'.i] at h

/-! ### The data space and the stack -/

theorem sameEnable_memRead {a : Word} {v : Byte} (h : memRead a s = .ok (v, u)) : SameEnable s u := by
  obtain rfl | rfl := memRead_state h <;> exact ⟨rfl, rfl⟩

/-- A write follows the rule at SREG's address and touches neither I nor IntInhibit elsewhere (20_memory.md R53). -/
theorem memWrite_enable_cases {a : Word} {v : Byte} (h : memWrite a v s = .ok u) :
    a = 0x5F ∧ EnableRule s u ∧ u.stackPtr = s.stackPtr ∨ SameEnable s u := by
  obtain ⟨_, rfl⟩ | ⟨-, rfl⟩ | ⟨-, rfl⟩ | ⟨ha, rfl⟩ | ⟨-, -, rfl⟩ | ⟨-, -, rfl⟩ := memWrite_cases h
  case inr.inr.inr.inl => exact .inl ⟨ha, rfl, rfl⟩
  all_goals exact .inr ⟨rfl, rfl⟩

theorem enableRule_memWrite {a : Word} {v : Byte} (h : memWrite a v s = .ok u) : EnableRule s u := by
  obtain ⟨-, hrule, -⟩ | hsame := memWrite_enable_cases h
  · exact hrule
  · exact hsame.enableRule

/-- A push that follows the rule by writing SREG leaves SP one below SREG's address. -/
theorem push8_enable_cases {v : Byte} (h : push8 v s = .ok u) :
    EnableRule s u ∧ u.stackPtr = 0x5E ∨ SameEnable s u := by
  obtain ⟨w, hw, rfl⟩ := push8_cases h
  have hsetSp : SameEnable w (w.setSp (w.stackPtr - 1)) := ⟨rfl, rfl⟩
  obtain ⟨hsreg, hrule, hsp⟩ | hsame := memWrite_enable_cases hw
  · refine .inl ⟨hrule.trans_sameEnable hsetSp, ?_⟩
    rw [hsp, hsreg]
    exact setSp_stackPtr_of_mapped w (by decide)
  · exact .inr (hsame.trans hsetSp)

theorem enableRule_push8 {v : Byte} (h : push8 v s = .ok u) : EnableRule s u := by
  obtain ⟨hrule, -⟩ | hsame := push8_enable_cases h
  · exact hrule
  · exact hsame.enableRule

theorem sameEnable_push8 {v : Byte} (h : push8 v s = .ok u) (hsp : s.stackPtr ≠ 0x5F) : SameEnable s u := by
  obtain ⟨w, hw, rfl⟩ := push8_cases h
  obtain ⟨hsreg, -⟩ | hsame := memWrite_enable_cases hw
  · exact absurd hsreg hsp
  · exact hsame.trans ⟨rfl, rfl⟩

/-- Two pushes in a row follow the rule, since they do not both write SREG (41_branch.md R161). -/
theorem enableRule_push8_push8 {v v' : Byte} (h : push8 v s = .ok t) (h' : push8 v' t = .ok u) : EnableRule s u := by
  obtain ⟨hrule, hsp⟩ | hsame := push8_enable_cases h
  · exact hrule.trans_sameEnable (sameEnable_push8 h' (by rw [hsp]; decide))
  · exact hsame.trans_enableRule (enableRule_push8 h')

theorem sameEnable_pop8 {v : Byte} (h : pop8 s = .ok (v, u)) : SameEnable s u := by
  rw [pop8_eq] at h
  exact (⟨rfl, rfl⟩ : SameEnable s (s.setSp (s.stackPtr + 1))).trans (sameEnable_memRead h)

theorem sameEnable_popPC {a : ProgAddr} (h : popPC s = .ok (a, u)) : SameEnable s u := by
  obtain ⟨_, w, _, h1, h2, -⟩ := popPC_cases h
  exact (sameEnable_pop8 h1).trans (sameEnable_pop8 h2)

theorem sameEnable_setPtr (s : State) (p : Pointer) (v : Word) : SameEnable s (s.setPtr p v) := ⟨rfl, rfl⟩

/-! ### Every instruction -/

/-- New flags without a rule for I are under the rule if they do not set I. -/
theorem enableRule_setSreg {r : Sreg} (h : r.i = true → s.sreg.i = true) : EnableRule s (s.setSreg r) := by
  rw [EnableRule, State.setSreg_inhibit, State.setSreg_sreg]
  cases hr : r.i
  · simp
  · simp [h hr]

/-- Every instruction but RETI follows the rule. -/
theorem Did.enableRule {i : Instr} (hdid : Did i s t) (hne : i ≠ .reti) : EnableRule s t := by
  cases hdid with
  | endReg d v r e _ _ hi | endPair d v r e _ _ _ hi =>
    subst e
    exact SameEnable.enableRule ⟨hi, rfl⟩
  | endFlags r e _ hi =>
    subst e
    exact (enableRule_setSreg hi).trans_sameEnable ⟨rfl, rfl⟩
  | writeFlag f x e =>
    subst e
    rfl
  | pc a e | skipIO a b e | modIO a v e | lpmInc d v e | sleep b e | wdr e =>
    subst e
    exact SameEnable.enableRule ⟨rfl, rfl⟩
  | load d a n v u h e | loadInc p d v u h e =>
    subst e
    exact (sameEnable_memRead h).enableRule.trans_sameEnable ⟨rfl, rfl⟩
  | loadDec p d v u h e =>
    subst e
    exact ((sameEnable_setPtr s p _).trans (sameEnable_memRead h)).enableRule.trans_sameEnable ⟨rfl, rfl⟩
  | store a v n u h e | storeInc p v u h e =>
    subst e
    exact (enableRule_memWrite h).trans_sameEnable ⟨rfl, rfl⟩
  | storeDec p v u h e =>
    subst e
    exact ((sameEnable_setPtr s p _).trans_enableRule (enableRule_memWrite h)).trans_sameEnable ⟨rfl, rfl⟩
  | call r a u w h1 h2 e =>
    subst e
    exact (enableRule_push8_push8 h1 h2).trans_sameEnable ⟨rfl, rfl⟩
  | ret a u h e =>
    subst e
    exact (sameEnable_popPC h).enableRule.trans_sameEnable ⟨rfl, rfl⟩
  | reti a u h e hi => exact absurd hi hne
  | push v u h e =>
    subst e
    exact (enableRule_push8 h).trans_sameEnable ⟨rfl, rfl⟩
  | pop d v u h e =>
    subst e
    exact (sameEnable_pop8 h).enableRule.trans_sameEnable ⟨rfl, rfl⟩

end

theorem exec_reti_inhibit {s t : State} (h : exec .reti s = .next t) : t.inhibit = true := by
  obtain ⟨_, _, -, rfl⟩ := returnFromInterrupt_cases (finish_next h)
  rfl

/-- Settles O18: RETI sets IntInhibit always, every other instruction by the rule. -/
theorem enableDelaysInterrupts : Obligations.EnableDelaysInterrupts := by
  intro i s t hinhibit h
  by_cases hreti : i = .reti
  · subst hreti
    exact iff_of_true (exec_reti_inhibit h) (.inl rfl)
  · rw [(exec_did h).enableRule hreti, hinhibit]
    simp [hreti]

end Sys2Proof.Machine
end

section
/-!
PROOFS (60_exceptions.md R316, R321, R331; 70_reset_and_hazards.md R353, R358). Interrupt entry: a due request is
acknowledged, I is cleared, the pc is pushed as by a call, and the CPU goes on at the vector.
-/

namespace Sys2Proof.Machine

/-! ### The state whose pc is pushed -/

/-- A request is kept by an acknowledgement unless it is the one acknowledged and flag-type (R314). -/
theorem acknowledge_pending_getLsbD (s : State) (n m : Nat) :
    (s.acknowledge n).pending.getLsbD m =
      (s.pending.getLsbD m && (decide (m ≠ n) || s.cfg.levelSources.getLsbD n)) := by
  have hbit : (1#26 <<< n).getLsbD m = (decide (n < 26) && decide (n = m)) := by
    rw [← BitVec.twoPow_eq, BitVec.getLsbD_twoPow]
  rw [State.acknowledge]
  split
  · simp [*]
  · rename_i hflag
    change (s.pending &&& ~~~(1#26 <<< n)).getLsbD m = _
    rw [BitVec.getLsbD_and, BitVec.getLsbD_not, hbit, Bool.eq_false_of_not_eq_true hflag, Bool.or_false]
    by_cases hm : m < 26
    · by_cases hmn : m = n
      · subst hmn
        simp [hm]
      · simp [hm, hmn, Ne.symm hmn]
    · simp [BitVec.getLsbD_of_ge s.pending m (Nat.not_lt.1 hm)]

/-- The state with the request of vector `n` acknowledged and I cleared: the one in which entry pushes the pc. -/
def State.requestTaken (s : State) (n : Nat) : State :=
  { s with pending := (s.acknowledge n).pending, sreg := { s.sreg with i := false } }

/-- Acknowledging and clearing I, as entry does them, make `requestTaken`. -/
theorem setSreg_acknowledge (s : State) (n : Nat) :
    (s.acknowledge n).setSreg { (s.acknowledge n).sreg with i := false } = s.requestTaken n := by
  rw [acknowledge_eq]
  rfl

/-! ### Entry where the push completes, and where it faults -/

theorem vector_eq (s : State) (n : Nat) : s.vector n = s.cfg.vectorBase + BitVec.ofNat 14 (2 * n) := rfl

theorem takeInterrupt_of_pushPC {s w : State} {n : Nat} (h : pushPC s.pc (s.requestTaken n) = .ok w) :
    takeInterrupt n s = .ok { w with pc := s.vector n, sleeping := false } := by
  have hcfg : w.cfg = s.cfg := (keeps_pushPC h).cfg
  have hvector : w.vector n = s.vector n := by rw [vector_eq, vector_eq, hcfg]
  have hpc : (s.requestTaken n).pc = s.pc := rfl
  simp only [takeInterrupt, setSreg_acknowledge, hpc, h, hvector]
  rfl

theorem takeInterrupt_of_fault {s : State} {n : Nat} {f : Fault} (h : pushPC s.pc (s.requestTaken n) = .error f) :
    takeInterrupt n s = .error f := by
  have hpc : (s.requestTaken n).pc = s.pc := rfl
  simp only [takeInterrupt, setSreg_acknowledge, hpc, h]

/-- The answer of an entry whose push completes, with its clocks (R316, R331). -/
theorem enterInterrupt_of_pushPC {s w : State} {n : Nat} (h : pushPC s.pc (s.requestTaken n) = .ok w) :
    enterInterrupt n s =
      .next { w with pc := s.vector n, sleeping := false, cycles := w.cycles + entryClocks s } := by
  rw [enterInterrupt, takeInterrupt_of_pushPC h]
  rfl

theorem enterInterrupt_of_fault {s : State} {n : Nat} {f : Fault} (h : pushPC s.pc (s.requestTaken n) = .error f) :
    enterInterrupt n s = .fault f := by
  rw [enterInterrupt, takeInterrupt_of_fault h]

theorem four_le_entryClocks (s : State) : 4 ≤ entryClocks s := Nat.le_add_right _ _

theorem entryClocks_of_awake {s : State} (h : s.sleeping = false) : entryClocks s = 4 := by
  simp [entryClocks, h]

/-- Entry is the relation of Safety.lean, whatever SP. -/
theorem entersInterrupt_enterInterrupt (s : State) (n : Nat) : EntersInterrupt (enterInterrupt n s) s n :=
  ⟨s.requestTaken n, rfl, acknowledge_pending_getLsbD s n,
    pushesReturn_of_pushPC
      (fun _ hw => ⟨entryClocks s, four_le_entryClocks s, entryClocks_of_awake, enterInterrupt_of_pushPC hw⟩)
      (fun _ hf => enterInterrupt_of_fault hf)⟩

/-! ### The step that takes an interrupt (R340) -/

/-- A CPU with I set and IntInhibit clear enters the interrupt of the lowest pending vector. -/
theorem cpuStep_due {s : State} {n : Nat} (hi : s.sreg.i = true) (hinhibit : s.inhibit = false)
    (hlow : lowestRequest s.cfg s.pending = some n) : cpuStep s = enterInterrupt n s := by
  have hsame : { s with inhibit := false } = s := by rw [← hinhibit]
  have hdue : s.interruptDue false = some n := by simp [State.interruptDue, hi, hlow]
  simp only [cpuStep, hsame, hinhibit, hdue]

/-! ### Entry with room on the stack -/

theorem returnPushed_other {s : State} (a : ProgAddr) {b : Word} (h : b ≠ s.stackPtr) (h' : b ≠ s.stackPtr - 1) :
    (s.returnPushed a).sramByte b = s.sramByte b := by
  rw [State.returnPushed, State.setSp_sramByte, State.setSramByte_sramByte_ne _ _ h', State.setSramByte_sramByte_ne _ _ h]

/-- The state after an entry with room on the stack: the pc pushed into SRAM, the CPU awake at the vector. -/
def State.entered (s : State) (n : Nat) : State :=
  { (s.requestTaken n).returnPushed s.pc with
    pc := s.vector n
    sleeping := false
    cycles := s.cycles + entryClocks s }

theorem enterInterrupt_of_stackRoom {s : State} (n : Nat) (h : s.stackRoom 2) :
    enterInterrupt n s = .next (s.entered n) :=
  enterInterrupt_of_pushPC (pushPC_of_stackRoom (s := s.requestTaken n) s.pc h)

theorem entered_stackPtr {s : State} (n : Nat) (h : s.stackRoom 2) : (s.entered n).stackPtr = s.stackPtr - 2 := by
  have hpushed : (s.entered n).stackPtr = s.stackPtr - 1 - 1 := returnPushed_stackPtr (s := s.requestTaken n) s.pc h
  rw [hpushed, BitVec.sub_sub]
  rfl

theorem entered_low (s : State) (n : Nat) : ((s.entered n).sramByte s.stackPtr).toNat = s.pc.toNat % 256 := by
  have hbyte : (s.entered n).sramByte s.stackPtr = BitVec.ofNat 8 (s.pc.toNat % 256) :=
    returnPushed_low (s.requestTaken n) s.pc
  rw [hbyte, BitVec.toNat_ofNat]
  exact Nat.mod_mod _ _

theorem entered_high (s : State) (n : Nat) : ((s.entered n).sramByte (s.stackPtr - 1)).toNat = s.pc.toNat / 256 := by
  have hbyte : (s.entered n).sramByte (s.stackPtr - 1) = BitVec.ofNat 8 (s.pc.toNat / 256) :=
    returnPushed_high (s.requestTaken n) s.pc
  have := s.pc.isLt
  rw [hbyte, BitVec.toNat_ofNat]
  omega

theorem entered_other (s : State) (n : Nat) {a : Word} (h : a ≠ s.stackPtr) (h' : a ≠ s.stackPtr - 1) :
    (s.entered n).sramByte a = s.sramByte a :=
  returnPushed_other (s := s.requestTaken n) s.pc h h'

/-- Where the vector holds code, the fetch after the entry succeeds (70_reset_and_hazards.md R353 items 5 and 6). -/
theorem fetch_entered {s : State} {n : Nat}
    (h : (decodeWords (s.progWord (s.vector n)) (s.progWord (s.vector n + 1))).isSome = true) :
    ∃ i, fetch (s.entered n) = .ok i := by
  obtain ⟨i, hi⟩ := Option.isSome_iff_exists.1 h
  have hcode : decodeWords ((s.entered n).progWord (s.entered n).pc) ((s.entered n).progWord ((s.entered n).pc + 1)) =
      some i := hi
  exact ⟨i, by simp only [fetch_eq, hcode]⟩

/-- Settles O15: the step is the entry, for every SP as the relation says, with room on the stack to the state `entered`. -/
theorem interruptEntry : Obligations.InterruptEntry := by
  intro s n u hi hinhibit hge hle hpending hlower
  have hstep : step s = enterInterrupt n u :=
    cpuStep_due hi hinhibit ((lowestRequest_eq_some_iff _ _ _).2 ⟨hge, hle, hpending, hlower⟩)
  rw [hstep]
  refine ⟨entersInterrupt_enterInterrupt u n, fun hroom => ?room, fun hready hconfigured => ?ready⟩
  case room =>
    exact ⟨u.entered n, enterInterrupt_of_stackRoom n hroom, rfl, entered_stackPtr n hroom, entered_low u n,
      entered_high u n, fun _ => entered_other u n, fun _ => rfl, rfl, rfl, rfl, hinhibit,
      acknowledge_pending_getLsbD u n, rfl, rfl, rfl, rfl,
      fun hawake => congrArg (u.cycles + ·) (entryClocks_of_awake hawake)⟩
  case ready =>
    obtain ⟨hroom, hvectors⟩ := hready
    obtain ⟨i, hfetch⟩ := fetch_entered (hvectors n hconfigured)
    exact ⟨u.entered n, i, enterInterrupt_of_stackRoom n hroom, hfetch⟩

/-! ### Entry with SP outside the data map, at either push (70_reset_and_hazards.md R358) -/

theorem PushesReturn.fault_of_unmapped {r : Result} {ret : ProgAddr} {s : State} {next : State → Prop}
    (h : PushesReturn r ret s next) (hsp : 0x8FF < s.stackPtr.toNat) : r = .fault (.unmappedData s.stackPtr .write) := by
  rwa [PushesReturn, if_neg (Nat.not_le.2 hsp)] at h

/-- A push at address 0 goes to R0 and wraps SP to its highest value (10_state.md R29). -/
theorem pushed_stackPtr_of_zero {v : Byte} {s u : State} (h : Pushed v s u) (hsp : s.stackPtr = 0x0000) :
    u.stackPtr = if s.cfg.spBits = .twelve then 0x0FFF else 0xFFFF := by
  obtain ⟨w, hw, rfl⟩ := h
  rw [hsp, DataWrite, dif_pos (by decide)] at hw
  subst hw
  simp only [State.stackPtr, State.trimSp, State.setReg_cfg, State.setReg_sp] at hsp ⊢
  rw [hsp]
  obtain ⟨hb, hsize⟩ | ⟨hb, hsize⟩ := spBits_size_cases s.cfg.spBits <;> rw [hsize, hb] <;> rfl

theorem PushesReturn.fault_of_zero {r : Result} {ret : ProgAddr} {s : State} {next : State → Prop}
    (h : PushesReturn r ret s next) (hsp : s.stackPtr = 0x0000) :
    r = .fault (.unmappedData (if s.cfg.spBits = .twelve then 0x0FFF else 0xFFFF) .write) := by
  rw [PushesReturn, if_pos (by rw [hsp]; decide)] at h
  obtain ⟨u, hpushed, hsecond⟩ := h
  have hwrapped := pushed_stackPtr_of_zero hpushed hsp
  rwa [hwrapped, if_neg (by split <;> decide)] at hsecond

/-- Settles O16: the relation of an entry, at an SP where one of its pushes has no cell. -/
theorem interruptEntryFaults : Obligations.InterruptEntryFaults := by
  intro s n u hi hinhibit hge hle hpending
  have hsome : lowestRequest u.cfg u.pending ≠ none := fun hnone =>
    absurd hpending (by simp [(lowestRequest_eq_none_iff _ _).1 hnone n hge hle])
  obtain ⟨m, hlow⟩ := Option.ne_none_iff_exists'.1 hsome
  have hstep : step s = enterInterrupt m u := cpuStep_due hi hinhibit hlow
  obtain ⟨e, he, -, hpushes⟩ := entersInterrupt_enterInterrupt u m
  have hsp : e.stackPtr = u.stackPtr := by rw [he]; rfl
  have hcfg : e.cfg = u.cfg := by rw [he]
  rw [hstep, ← hsp, ← hcfg]
  exact ⟨hpushes.fault_of_unmapped, hpushes.fault_of_zero⟩

end Sys2Proof.Machine
end

section
/-!
PROOFS (70_reset_and_hazards.md R363). Nothing reads the clock count: every operation of the machine commutes with
`State.tick`. It is shown once for each operation on memory, the stack, the environment and the interrupts, and composed
over the instructions to the step. The operations that can fault commute in both outcomes.
-/

namespace Sys2Proof.Machine

/-- An answer whose next state, if there is one, counts `n` clocks more. -/
def Result.tick (r : Result) (n : Nat) : Result :=
  match r with
  | .next t => .next (t.tick n)
  | .fault f => .fault f
  | .refused e => .refused e

/-- A computation's state, if it does not fault, with `n` clocks more. -/
abbrev tickOk (n : Nat) : Except Fault State → Except Fault State := Except.map (State.tick · n)

/-- The same beside a value, which stays. -/
abbrev tickRead {α : Type} (n : Nat) : Except Fault (α × State) → Except Fault (α × State) :=
  Except.map (Prod.map id (State.tick · n))

theorem State.tick_comm (s : State) (m n : Nat) : (s.tick m).tick n = (s.tick n).tick m := by
  simp only [State.tick, Nat.add_right_comm]

/-! ### The data space and the stack -/

theorem memRead_tick (a : Word) (s : State) (n : Nat) : memRead a (s.tick n) = tickRead n (memRead a s) := by
  simp only [memRead, State.tick_cfg]
  cases dataCell s.cfg a <;> rfl

theorem memWrite_tick (a : Word) (v : Byte) (s : State) (n : Nat) :
    memWrite a v (s.tick n) = tickOk n (memWrite a v s) := by
  simp only [memWrite, State.tick_cfg]
  cases dataCell s.cfg a <;> rfl

theorem push8_tick (v : Byte) (s : State) (n : Nat) : push8 v (s.tick n) = tickOk n (push8 v s) := by
  simp only [push8, State.tick_stackPtr, memWrite_tick]
  cases memWrite s.stackPtr v s <;> rfl

theorem pop8_tick (s : State) (n : Nat) : pop8 (s.tick n) = tickRead n (pop8 s) :=
  memRead_tick _ (s.setSp (s.stackPtr + 1)) n

theorem pushBytes_tick (k : Nat) (a : Word) (s : State) (n : Nat) :
    pushBytes k a (s.tick n) = tickOk n (pushBytes k a s) := by
  induction k generalizing a s with
  | zero => rfl
  | succ k ih =>
    simp only [pushBytes, push8_tick]
    cases push8 (lowByte a) s with
    | ok u => exact ih _ u
    | error f => rfl

theorem popBytes_tick (k : Nat) (a : Word) (s : State) (n : Nat) :
    popBytes k a (s.tick n) = tickRead n (popBytes k a s) := by
  induction k generalizing a s with
  | zero => rfl
  | succ k ih =>
    simp only [popBytes, pop8_tick]
    cases pop8 s with
    | ok p => exact ih _ p.2
    | error f => rfl

theorem pushPC_tick (a : ProgAddr) (s : State) (n : Nat) : pushPC a (s.tick n) = tickOk n (pushPC a s) :=
  pushBytes_tick _ _ s n

theorem popPC_tick (s : State) (n : Nat) : popPC (s.tick n) = tickRead n (popPC s) := by
  simp only [popPC, State.tick_cfg, popBytes_tick]
  cases popBytes s.cfg.hw.retAddrBytes 0 s <;> rfl

/-! ### What the instructions share -/

section
variable (s : State) (n : Nat)

theorem load_tick (d : Reg) (a : Word) (k : ProgAddr) : load d a k (s.tick n) = (load d a k s).tick n := by
  simp only [load, memRead_tick]
  cases memRead a s <;> rfl

theorem loadPostInc_tick (m : String) (p : Pointer) (d : Reg) :
    loadPostInc m p d (s.tick n) = (loadPostInc m p d s).tick n := by
  have hread : memRead ((s.tick n).ptr p) (s.tick n) = tickRead n (memRead (s.ptr p) s) := memRead_tick _ s n
  simp only [loadPostInc, hread]
  split
  · rfl
  · cases memRead (s.ptr p) s <;> rfl

theorem loadPreDec_tick (m : String) (p : Pointer) (d : Reg) :
    loadPreDec m p d (s.tick n) = (loadPreDec m p d s).tick n := by
  unfold loadPreDec
  split
  · rfl
  · exact load_tick (s.setPtr p (s.ptr p - 1)) n d _ 1

theorem store_tick (a : Word) (v : Byte) (k : ProgAddr) : store a v k (s.tick n) = (store a v k s).tick n := by
  simp only [store, memWrite_tick]
  cases memWrite a v s <;> rfl

theorem storePostInc_tick (m : String) (p : Pointer) (r : Reg) :
    storePostInc m p r (s.tick n) = (storePostInc m p r s).tick n := by
  have hwrite : memWrite ((s.tick n).ptr p) ((s.tick n).reg r) (s.tick n) = tickOk n (memWrite (s.ptr p) (s.reg r) s) :=
    memWrite_tick _ _ s n
  simp only [storePostInc, hwrite]
  split
  · rfl
  · cases memWrite (s.ptr p) (s.reg r) s <;> rfl

theorem storePreDec_tick (m : String) (p : Pointer) (r : Reg) :
    storePreDec m p r (s.tick n) = (storePreDec m p r s).tick n := by
  unfold storePreDec
  split
  · rfl
  · exact store_tick (s.setPtr p (s.ptr p - 1)) n _ _ 1

theorem loadProgram_tick (d : Reg) : loadProgram d (s.tick n) = (loadProgram d s).tick n := by
  have hread : progRead ((s.tick n).ptr .z) (s.tick n) = progRead (s.ptr .z) s := rfl
  simp only [loadProgram, hread]
  cases progRead (s.ptr .z) s <;> rfl

theorem execLpmZInc_tick (d : Reg) : execLpmZInc d (s.tick n) = (execLpmZInc d s).tick n := by
  have hread : progRead ((s.tick n).ptr .z) (s.tick n) = progRead (s.ptr .z) s := rfl
  simp only [execLpmZInc, hread]
  split
  · rfl
  · cases progRead (s.ptr .z) s <;> rfl

theorem execPush_tick (r : Reg) : execPush r (s.tick n) = (execPush r s).tick n := by
  simp only [execPush, State.tick_reg, push8_tick]
  cases push8 (s.reg r) s <;> rfl

theorem execPop_tick (d : Reg) : execPop d (s.tick n) = (execPop d s).tick n := by
  simp only [execPop, pop8_tick]
  cases pop8 s <;> rfl

theorem callTo_tick (target ret : ProgAddr) : callTo target ret (s.tick n) = (callTo target ret s).tick n := by
  simp only [callTo, pushPC_tick]
  cases pushPC ret s <;> rfl

theorem execRet_tick : execRet (s.tick n) = (execRet s).tick n := by
  simp only [execRet, popPC_tick]
  cases popPC s <;> rfl

theorem execReti_tick : execReti (s.tick n) = (execReti s).tick n := by
  simp only [execReti, returnFromInterrupt, popPC_tick]
  cases popPC s <;> rfl

theorem skip_tick (c : Bool) : skip c (s.tick n) = (skip c s).tick n := by cases c <;> rfl

theorem branchIf_tick (c : Bool) (k : BitVec 7) : branchIf c k (s.tick n) = (branchIf c k s).tick n := by
  cases c <;> rfl

theorem next_skip_tick (c : Bool) : Host.Outcome.next (skip c (s.tick n)) = Result.tick (.next (skip c s)) n :=
  congrArg _ (skip_tick s n c)

theorem next_branchIf_tick (c : Bool) (k : BitVec 7) :
    Host.Outcome.next (branchIf c k (s.tick n)) = Result.tick (.next (branchIf c k s)) n :=
  congrArg _ (branchIf_tick s n c k)

/-- The device read of SBIC and SBIS always completes, so the skip after it is what is left to see. -/
theorem skipOnIO_tick (a : BitVec 5) (b : BitPos) (x : Bool) :
    skipOnIO a b x (s.tick n) = (skipOnIO a b x s).tick n := by
  rw [skipOnIO_eq, skipOnIO_eq]
  exact next_skip_tick (s.deviceAfterRead (ioAddr5 s.cfg a)) n _

theorem modifyIO_tick (a : BitVec 5) (f : Byte → Byte) : modifyIO a f (s.tick n) = (modifyIO a f s).tick n := by
  rw [modifyIO_eq, modifyIO_eq]
  rfl

theorem execBrk_tick : execBrk (s.tick n) = (execBrk s).tick n := by
  cases h : s.cfg.ocdEnabled <;> simp only [execBrk, State.tick_cfg, h] <;> rfl

end

/-! ### Every instruction, and its clocks -/

/-- An instruction that only computes on registers, flags and the pc answers the same by evaluation; the others go
through the operation they share. -/
theorem exec_tick (i : Instr) (s : State) (n : Nat) : exec i (s.tick n) = Result.tick (exec i s) n := by
  cases i with
  | rcall k => exact callTo_tick s n _ _
  | icall => exact callTo_tick s n _ _
  | call k => exact callTo_tick s n _ _
  | ret => exact execRet_tick s n
  | reti => exact execReti_tick s n
  | cpse d r => exact next_skip_tick s n _
  | sbrc r b => exact next_skip_tick s n _
  | sbrs r b => exact next_skip_tick s n _
  | sbic a b => exact skipOnIO_tick s n a b _
  | sbis a b => exact skipOnIO_tick s n a b _
  | brbs f k => exact next_branchIf_tick s n _ k
  | brbc f k => exact next_branchIf_tick s n _ k
  | breq k => exact next_branchIf_tick s n _ k
  | brne k => exact next_branchIf_tick s n _ k
  | brcs k => exact next_branchIf_tick s n _ k
  | brcc k => exact next_branchIf_tick s n _ k
  | brsh k => exact next_branchIf_tick s n _ k
  | brlo k => exact next_branchIf_tick s n _ k
  | brmi k => exact next_branchIf_tick s n _ k
  | brpl k => exact next_branchIf_tick s n _ k
  | brge k => exact next_branchIf_tick s n _ k
  | brlt k => exact next_branchIf_tick s n _ k
  | brhs k => exact next_branchIf_tick s n _ k
  | brhc k => exact next_branchIf_tick s n _ k
  | brts k => exact next_branchIf_tick s n _ k
  | brtc k => exact next_branchIf_tick s n _ k
  | brvs k => exact next_branchIf_tick s n _ k
  | brvc k => exact next_branchIf_tick s n _ k
  | brie k => exact next_branchIf_tick s n _ k
  | brid k => exact next_branchIf_tick s n _ k
  | ldX d => exact load_tick s n d _ 1
  | ldXInc d => exact loadPostInc_tick s n _ .x d
  | ldXDec d => exact loadPreDec_tick s n _ .x d
  | ldY d => exact load_tick s n d _ 1
  | ldYInc d => exact loadPostInc_tick s n _ .y d
  | ldYDec d => exact loadPreDec_tick s n _ .y d
  | lddY d q => exact load_tick s n d _ 1
  | ldZ d => exact load_tick s n d _ 1
  | ldZInc d => exact loadPostInc_tick s n _ .z d
  | ldZDec d => exact loadPreDec_tick s n _ .z d
  | lddZ d q => exact load_tick s n d _ 1
  | lds d k => exact load_tick s n d k 2
  | stX r => exact store_tick s n _ _ 1
  | stXInc r => exact storePostInc_tick s n _ .x r
  | stXDec r => exact storePreDec_tick s n _ .x r
  | stY r => exact store_tick s n _ _ 1
  | stYInc r => exact storePostInc_tick s n _ .y r
  | stYDec r => exact storePreDec_tick s n _ .y r
  | stdY q r => exact store_tick s n _ _ 1
  | stZ r => exact store_tick s n _ _ 1
  | stZInc r => exact storePostInc_tick s n _ .z r
  | stZDec r => exact storePreDec_tick s n _ .z r
  | stdZ q r => exact store_tick s n _ _ 1
  | sts k r => exact store_tick s n k _ 2
  | lpm => exact loadProgram_tick s n 0
  | lpmZ d => exact loadProgram_tick s n d
  | lpmZInc d => exact execLpmZInc_tick s n d
  | inp d a => exact load_tick s n d _ 1
  | out a r => exact store_tick s n _ _ 1
  | push r => exact execPush_tick s n r
  | pop d => exact execPop_tick s n d
  | sbi a b => exact modifyIO_tick s n a _
  | cbi a b => exact modifyIO_tick s n a _
  | brk => exact execBrk_tick s n
  | _ => rfl

theorem ioBitIs_tick (a : BitVec 5) (b : BitPos) (x : Bool) (s : State) (n : Nat) :
    ioBitIs a b x (s.tick n) = ioBitIs a b x s := by
  simp only [ioBitIs, State.tick_cfg, memRead_tick]
  cases memRead (ioAddr5 s.cfg a) s <;> rfl

/-- The clocks an instruction counts do not depend on those before it; SBIC and SBIS read a device byte to tell them. -/
theorem clocks_tick (i : Instr) (s : State) (n : Nat) : clocks i (s.tick n) = clocks i s := by
  cases i with
  | sbic a b => exact congrArg (skipClocks · s) (ioBitIs_tick a b false s n)
  | sbis a b => exact congrArg (skipClocks · s) (ioBitIs_tick a b true s n)
  | _ => rfl

theorem fetch_tick (s : State) (n : Nat) : fetch (s.tick n) = fetch s := rfl

theorem runInstr_tick (s : State) (n : Nat) : runInstr (s.tick n) = (runInstr s).tick n := by
  simp only [runInstr, fetch_tick, exec_tick, clocks_tick]
  cases fetch s with
  | error f => rfl
  | ok i =>
    dsimp only
    cases exec i s with
    | next t => exact congrArg _ (t.tick_comm n _)
    | fault f => rfl
    | refused e => rfl

/-! ### Interrupt entry (60_exceptions.md R316, R331) -/

theorem State.acknowledge_tick (s : State) (k n : Nat) : (s.tick n).acknowledge k = (s.acknowledge k).tick n := by
  cases h : s.cfg.levelSources.getLsbD k <;> simp only [State.acknowledge, State.tick_cfg, h] <;> rfl

theorem requestTaken_tick (s : State) (k n : Nat) : (s.tick n).requestTaken k = (s.requestTaken k).tick n := by
  simp only [State.requestTaken, State.acknowledge_tick]
  rfl

theorem enterInterrupt_tick (k : Nat) (s : State) (n : Nat) :
    enterInterrupt k (s.tick n) = (enterInterrupt k s).tick n := by
  have hpush : pushPC (s.tick n).pc ((s.tick n).requestTaken k) = tickOk n (pushPC s.pc (s.requestTaken k)) := by
    rw [requestTaken_tick, pushPC_tick, State.tick_pc]
  cases h : pushPC s.pc (s.requestTaken k) with
  | ok w =>
    rw [h] at hpush
    rw [enterInterrupt_of_pushPC h, enterInterrupt_of_pushPC hpush]
    exact congrArg Host.Outcome.next
      (State.tick_comm { w with pc := s.vector k, sleeping := false } n (entryClocks s))
  | error f =>
    rw [h] at hpush
    rw [enterInterrupt_of_fault h, enterInterrupt_of_fault hpush]
    rfl

/-! ### The environment and the step -/

/-- A reset event leaves the count running (log 20, 21). -/
theorem resetEvent_tick (src : ResetSource) (s : State) (n : Nat) :
    resetEvent src (s.tick n) = (resetEvent src s).tick n := by
  simp only [resetEvent, State.tick]

theorem actOnDevices_tick (e : EnvAction) (s : State) (n : Nat) :
    actOnDevices e (s.tick n) = (actOnDevices e s).tick n := rfl

theorem applyAction_tick (e : EnvAction) (s : State) (n : Nat) :
    applyAction e (s.tick n) = (applyAction e s).tick n := by
  simp only [applyAction, State.tick_cfg, actOnDevices_tick, resetEvent_tick]
  split <;> rfl

theorem envStep_tick (s : State) (n : Nat) : envStep (s.tick n) = (envStep s).tick n := by
  simp only [envStep, State.tick_env]
  split
  · rfl
  · next e rest _ => exact applyAction_tick e { s with env := rest } n

theorem cpuStep_of_interruptDue {s : State} {k : Nat}
    (hdue : State.interruptDue { s with inhibit := false } s.inhibit = some k) :
    cpuStep s = enterInterrupt k { s with inhibit := false } := by
  simp only [cpuStep, hdue]

/-- Neither the choice of the step nor what it chooses reads the count; a CPU that sleeps on adds no clocks (log 21). -/
theorem cpuStep_tick (s : State) (n : Nat) : cpuStep (s.tick n) = (cpuStep s).tick n := by
  have hsame : State.interruptDue { s.tick n with inhibit := false } (s.tick n).inhibit =
      State.interruptDue { s with inhibit := false } s.inhibit := rfl
  cases hdue : State.interruptDue { s with inhibit := false } s.inhibit with
  | some k =>
    rw [cpuStep_of_interruptDue hdue, cpuStep_of_interruptDue (hsame.trans hdue)]
    exact enterInterrupt_tick k { s with inhibit := false } n
  | none =>
    cases hsleeping : s.sleeping with
    | true =>
      rw [cpuStep_asleep hdue hsleeping, cpuStep_asleep (hsame.trans hdue) hsleeping]
      rfl
    | false =>
      rw [cpuStep_awake hdue hsleeping, cpuStep_awake (hsame.trans hdue) hsleeping]
      exact runInstr_tick { s with inhibit := false } n

theorem step_tick (s : State) (n : Nat) : step (s.tick n) = Result.tick (step s) n := by
  rw [step, envStep_tick]
  exact cpuStep_tick (envStep s) n

/-- Settles O12: the step commutes with `tick`, whatever it answers. -/
theorem clockCountUnread : Obligations.ClockCountUnread := by
  intro s n
  rw [step_tick]
  cases step s <;> rfl

end Sys2Proof.Machine
end

section
/-!
PROOFS (10_state.md R37). The values the model chooses for the reset state where the spec gives none (log 1, 2).
-/

namespace Sys2Proof.Machine

/-- A byte that nothing has written since the power-up is a free value of the power-up and the address (log 2). -/
theorem State.sramByte_of_unlisted {s : State} {a : Word} (h : s.sram.get a.toNat = none) :
    s.sramByte a = Config.sramPowerOn s.powerUp a := by
  rw [State.sramByte, h, Option.getD_none]

theorem reset_reg (r : Reg) : State.reset.reg r = 0x00 := Vector.getElem_replicate r.isLt

/-- Settles O8: the registers are one replicated zero, and the reset SRAM lists nothing, at power-up 0. -/
theorem resetChosenValues : Obligations.ResetChosenValues :=
  ⟨reset_reg, fun a => State.sramByte_of_unlisted (Memory.get_nil a.toNat)⟩

end Sys2Proof.Machine
end
